-- ==== Sys2Proof/Word.lean ====
section
/-! DEFINITION. The byte, the one word of the serial lines (08 R171, R187). Every other quantity of the unit is a
whole number in a range (00_scope 5.3, 5.4) and is a `Nat` or an `Int`. -/

namespace Sys2Proof

/-- One byte of a serial line (08 R171: 8 data bits). -/
abbrev Byte := BitVec 8

end Sys2Proof
end

