-- ==== Sys2Proof/Config.lean ====
section
/-! DEFINITION. The fixed values of the unit that no setup changes, and the free values the manual leaves open. -/

namespace Sys2Proof

/-- The coast window, in tenths (01 section 1.2: "The coast window is 10 tenths", R14). -/
def Config.coastWindow : Nat := 10

/-- The places of an inbound request queue and of a reply queue (08 R170). -/
def Config.queuePlaces : Nat := 4

/-- The longest payload of a frame (08 R171, R187). -/
def Config.maxPayload : Nat := 120

/-- The longest retry wait, 3600 s in tenths (06 R131). -/
def Config.maxRetryWait : Nat := 36000

/-- The longest time a save takes, 2 s in tenths (10 R202). -/
def Config.maxSave : Nat := 20

/-- FREE VALUE. A place chosen where the manual leaves an order open (09 R195: "Two markings that reach one queue
together are taken in either order"; log entries 10, 11, 12, 20). Nothing constrains it. -/
opaque Config.pick : Nat → Nat

/-- FREE VALUE. What a wait flag byte that is neither 0 nor 1 is taken as (08 R174 and R188 give 0 and 1 only; log
entry 15). Nothing constrains it. -/
opaque Config.oddWaitFlag : Byte → Bool

/-- FREE VALUE. What a sweep context holds for a part that its kind does not use (0: value, 1: condition, 2: tolerance),
by the number sent for it (07 R151, R153 give these parts for SET, SCAN and OFF_TARGET only; log entry 33). Nothing
constrains it. -/
opaque Config.unusedPart : Nat → Nat → Nat

/-- FREE VALUE. The CRC that stands with an image which a cold reset has cut (10 R202: "The stored image may then be partly
written"; log entry 14). Nothing constrains it. `Config.imageCrc`, which speaks of an image, stands in Machine/State.lean. -/
opaque Config.cutCrc : Nat → BitVec 32

end Sys2Proof
end

