-- ==== Sys2Proof/Syntax.lean ====
section
/-! DEFINITION. The commands of the unit: one constructor of `Instr` for each row of spec/opcode_table.json, and the
names its operands are made of. -/

namespace Sys2Proof

/-- One of the 24 drives. Drive `d` bears the number `d.val + 1` (00_scope 5.2). -/
abbrev Drive := Fin 24

/-- One of the six output cards; card `c` bears the number `c.val + 1` (00_scope 5.2). -/
abbrev Card := Fin 6

/-- A master port (08 R170), in the order of R173 and R188. -/
inductive Port where
  | climate | heat | panel
  deriving DecidableEq, Repr

/-- One of the four serial lines: the three master ports and the WEATHER port (08 R170). -/
inductive Line where
  | master (p : Port)
  | weather
  deriving DecidableEq, Repr

/-- One end of a drive's stroke: position 0 or position 1000 (00_scope section 4). -/
inductive End where
  | closed | opened
  deriving DecidableEq, Repr

/-- The exposure of a vent to the present wind (00_scope section 4, 03 R61). -/
inductive Side where
  | windward | leeward
  deriving DecidableEq, Repr

/-- The two sweep contexts (07 section 7.2). -/
inductive Context where
  | one | two
  deriving DecidableEq, Repr

/-- The two sources whose demand stack entries carry a lifetime (02 R37). -/
inductive TimedSource where
  | panel | climate
  deriving DecidableEq, Repr

/-- The ten payload bytes of an OBSERVATION frame, as sent (08 R188). -/
structure WireObservation where
  mast        : Byte
  directionOn : Bool
  tempOn      : Bool
  rain        : Bool
  snow        : Bool
  mean        : BitVec 16
  gust        : BitVec 16
  direction   : BitVec 16
  temp        : BitVec 16
  deriving DecidableEq, Repr

/-- The commands, one constructor for each row of spec/opcode_table.json, in the table's order. A service names the
port whose head request is served; its operands stand in that request's payload (08 R172, R175; log entry 3). -/
inductive Instr where
  | requestArrival (p : Port) (kind tag : Byte) (payload : List Byte)
  | interByteGap (l : Line)
  | observation (o : WireObservation)
  | setDemand (p : Port)
  | releaseDemand (p : Port)
  | jog (p : Port)
  | lockoutOn (p : Port)
  | lockoutOff (p : Port)
  | setCap (p : Port)
  | releaseCap (p : Port)
  | home (p : Port)
  | resetDrive (p : Port)
  | readDrive (p : Port)
  | readEnvelope (p : Port)
  | readFaults (p : Port)
  | ackFaults (p : Port)
  | subscribe (p : Port)
  | unsubscribe (p : Port)
  | startSweep (p : Port)
  | cancelSweep (p : Port)
  | readSweep (p : Port)
  | writeDriveSetup (p : Port)
  | writeGroup (p : Port)
  | writeCompartmentSetup (p : Port)
  | saveSettings (p : Port)
  | readDriveSetup (p : Port)
  | readGroup (p : Port)
  | readCompartmentSetup (p : Port)
  | setStep (c : Context)
  | releaseStep (c : Context)
  | homeStep (c : Context)
  | scanStep (c : Context)
  | demandLapse (d : Drive) (src : TimedSource)
  | capLapse (d : Drive)
  | envelopePush (d : Drive)
  | releaseTimerExpiry (side : Side)
  | staleTimerExpiry
  | grant
  | spacingExpiry
  | restartHoldExpiry
  | plannedExpiry (d : Drive)
  | pulseEnd (d : Drive)
  | interPulseExpiry (d : Drive)
  | settleExpiry (d : Drive)
  | reversalExpiry (d : Drive)
  | retryWaitExpiry (d : Drive)
  | stall (d : Drive)
  | coastWindowExpiry (d : Drive)
  | encoderPulse (d : Drive)
  | switchActive (d : Drive) (e : End)
  | switchInactive (d : Drive) (e : End)
  | tripContactActive (d : Drive)
  | tripContactInactive (d : Drive)
  | transmitBegin (p : Port)
  | transmitCompletion (p : Port)
  | saveCompletion (order : List Drive)
  | warmReset (order : List Drive)
  | resetHoldEnd (order : List Drive)
  | coldReset (present : Vector Bool 6) (imageCut : Bool) (order : List Drive)
  | byteArrival (l : Line) (b : Byte)
  | progressPointReached (d : Drive)
  deriving DecidableEq, Repr

end Sys2Proof
end

