-- ==== Sys2Proof/Decode.lean ====
section
/-! DEFINITION. The decoder of table words. The unit decodes no instruction words: spec/opcode_table.json gives no row
any bits ("fields": [] for each of its 61 rows), so no word spells a command. The frames of the serial lines are read
and written in Machine/Frames.lean. -/

namespace Sys2Proof

/-- The command that a table word spells: none, since no row of spec/opcode_table.json gives bits. -/
def decodeTableWord (_nbits _w : Nat) : Option Instr := none

end Sys2Proof
end

