-- ==== Sys2Proof/Machine/State.lean ====
section
/-! DEFINITION. The state of the unit as plain data, every piece the manual names (INVENTORY.md lists each with its rule),
and the state right after reset. -/

namespace Sys2Proof.Machine

/-! ### Names -/

/-- The kind of a drive (01 section 1.1), in the order of 08 R188. -/
inductive Kind where
  | vent | screen | valve | unused
  deriving DecidableEq, Repr

/-- The motion state of a drive (04 R82), in the order of 08 R188. -/
inductive MotionState where
  | stopped | queued | running | pausing | retryWait | faulted | locked | absent
  deriving DecidableEq, Repr

/-- OPEN moves toward 1000, CLOSE toward 0 (00_scope 5.3). -/
inductive Direction where
  | opening | closing
  deriving DecidableEq, Repr

/-- How far the unit trusts a position (01 section 1.6), in the order of 08 R188. -/
inductive Knowledge where
  | unknown | estimated | referenced
  deriving DecidableEq, Repr

/-- The sources of the demand stack, highest authority first (02 section 2.1, 08 R188). -/
inductive Source where
  | lockout | panel | climate | fallback
  deriving DecidableEq, Repr

/-- The purpose of a run (04 R81). -/
inductive Purpose where
  | move | home
  deriving DecidableEq, Repr

/-- The kind of a pause (04 R81). -/
inductive PauseKind where
  | settle | reversal | interPulse
  deriving DecidableEq, Repr

/-- The fault kinds that belong to a drive, highest priority first (06 R139). -/
inductive DriveFault where
  | bothEnds | wrongEnd | tripLimit | cardAbsent | stall | trip | endSwitchMissed
  deriving DecidableEq, Repr

/-- The fault kinds that belong to the compartment, highest priority first (06 R139). -/
inductive CompartmentFault where
  | weatherStale | storeInvalid
  deriving DecidableEq, Repr

/-- Every fault kind (06 R139). -/
inductive FaultKind where
  | ofDrive (k : DriveFault)
  | ofCompartment (k : CompartmentFault)
  deriving DecidableEq, Repr

/-- The weather state (03 R56), in the order of 08 R188. -/
inductive Weather where
  | current | stale
  deriving DecidableEq, Repr

/-- What a sweep does at each member (07 R151), in the order of 08 R188. -/
inductive SweepKind where
  | set | release | home | scan
  deriving DecidableEq, Repr

/-- The direction of the walk through the member list (07 R151), in the order of 08 R188. -/
inductive SweepOrder where
  | forward | reverse
  deriving DecidableEq, Repr

/-- The state of a sweep context (07 R151), in the order of 08 R188. -/
inductive SweepState where
  | idle | stepping | waiting
  deriving DecidableEq, Repr

/-- What a SCAN sweep tests (07 R159), in the order of 08 R188. -/
inductive Condition where
  | offTarget | notReferenced | faulted | moving
  deriving DecidableEq, Repr

/-- The queue the last frame was taken from (08 R170). -/
inductive LastSource where
  | reply | notice
  deriving DecidableEq, Repr

/-- A subject of a notice (09 R195). -/
inductive Subject where
  | driveState (d : Drive)
  | displaced (d : Drive)
  | sweepDone (c : Context)
  | envelope
  | faultSummary
  deriving DecidableEq, Repr

/-! ### Setup records -/

/-- The drive setup record, 18 fields (01 section 1.2). The default values are those of kind UNUSED, which hold the
VENT values where a default depends on the kind (01 R4). -/
structure Setup where
  kind           : Kind := .unused
  strokeOpen     : Nat := 1200
  strokeClose    : Nat := 1200
  startLag       : Nat := 10
  pps            : Nat := 4800
  stallGap       : Nat := 15
  /-- `none` is an absent facing -/
  facing         : Option Nat := none
  closedSwitch   : Bool := true
  openSwitch     : Bool := true
  deadband       : Nat := 10
  overrun        : Nat := 10
  reversalPause  : Nat := 20
  pulseOn        : Nat := 20
  pulseOff       : Nat := 100
  noticeInterval : Nat := 100
  /-- `none` is HOLD -/
  fallback       : Option Nat := some 0
  retryBase      : Nat := 30
  retryLimit     : Nat := 4
  deriving DecidableEq, Repr

/-- The compartment setup record, 20 fields with their defaults (08 R181). -/
structure Compartment where
  slotLimit           : Nat := 3
  startSpacing        : Nat := 5
  climateLifetime     : Nat := 6000
  windwardLo          : Nat := 40
  windwardHi          : Nat := 100
  leewardLo           : Nat := 70
  leewardHi           : Nat := 150
  rainCeiling         : Nat := 150
  snowValveFloor      : Nat := 400
  frostStart          : Int := 20
  frostFull           : Int := -100
  frostMaxFloor       : Nat := 550
  releaseDelay        : Nat := 3000
  staleTimeout        : Nat := 3000
  staleVentCeiling    : Nat := 200
  mastId              : Nat := 1
  jogStep             : Nat := 20
  restartHold         : Nat := 300
  rereferenceDistance : Nat := 5000
  endSnapBand         : Nat := 50
  deriving DecidableEq, Repr

/-- A group: a label of 0 to 8 characters and an ordered member list (07 R147). -/
structure Group where
  label   : List Byte := []
  members : List Drive := []
  deriving DecidableEq, Repr

/-- The setups of the settings image (10 R201): compartment setup, 24 drive setups, 12 groups. -/
structure Settings where
  compartment : Compartment := {}
  setups      : Vector Setup 24 := Vector.replicate 24 {}
  groups      : Vector Group 12 := Vector.replicate 12 {}
  deriving DecidableEq, Repr

/-- A settings image (10 R201): the setups and the lockout set, in ascending drive number. -/
structure Image where
  settings : Settings := {}
  lockouts : List Drive := []
  deriving DecidableEq, Repr

end Sys2Proof.Machine

/-- FREE VALUE. The 32-bit CRC over the parts of an image (10 R201, R204). The manual gives neither the layout of the image
nor the polynomial (log entry 14). Nothing constrains it. -/
opaque Sys2Proof.Config.imageCrc : Sys2Proof.Machine.Image → BitVec 32

namespace Sys2Proof.Machine

/-! ### The drives -/

/-- The position book entry of a drive (01 R2). -/
structure Book where
  position  : Nat := 0
  count     : Nat := 0
  knowledge : Knowledge := .unknown
  travel    : Nat := 0
  deriving DecidableEq, Repr

/-- The run plan of a VENT (01 R6, R10); its direction is the drive's direction. -/
structure VentPlan where
  start   : Nat
  aim     : Nat
  lag     : Nat
  planned : Nat
  timer   : Nat
  deriving DecidableEq, Repr

/-- The run plan of a SCREEN (01 R13, R16); its direction is the drive's direction. -/
structure ScreenPlan where
  aim         : Nat
  targetCount : Nat
  tally       : Nat
  deriving DecidableEq, Repr

/-- The plan of a run of a VENT or SCREEN (04 R81). -/
inductive Run where
  | vent (p : VentPlan)
  | screen (p : ScreenPlan)
  deriving DecidableEq, Repr

/-- The train of a VALVE (01 R11, 04 R81, R99); its direction is the drive's direction. -/
structure Train where
  start    : Nat
  aim      : Nat
  owed     : Nat
  done     : Nat
  number   : Nat
  length   : Nat
  pulseOn  : Nat
  pulseOff : Nat
  /-- the time since the pulse in hand began -/
  elapsed  : Nat
  deriving DecidableEq, Repr

/-- A pause and the time left to its end (04 R81). -/
structure Pause where
  kind : PauseKind
  left : Nat
  deriving DecidableEq, Repr

/-- The coast window of a SCREEN (01 R14): the time left, and the direction of the run just ended. -/
structure Coast where
  left      : Nat
  direction : Direction
  deriving DecidableEq, Repr

/-- The motion record of a drive (04 R81), with the retry count, retry wait and FAULTED cause of chapter 6. -/
structure Motion where
  state        : MotionState := .stopped
  direction    : Direction := .closing
  purpose      : Purpose := .move
  homeMarker   : Bool := false
  missedEnd    : Option End := none
  pause        : Option Pause := none
  run          : Option Run := none
  train        : Option Train := none
  lastProgress : Option Nat := none
  retryCount   : Nat := 0
  retryLeft    : Option Nat := none
  cause        : Option DriveFault := none
  coast        : Option Coast := none
  pulseGap     : Option Nat := none
  /-- the position the travel of the run is reckoned from (01 R22) -/
  travelBase   : Nat := 0
  deriving DecidableEq, Repr

/-- A value with a remaining lifetime in tenths: a PANEL or CLIMATE entry, or a heat cap (02 R27, R37, R43). -/
structure Held where
  value : Nat
  left  : Nat
  deriving DecidableEq, Repr

/-- The demand table entry of a drive (02 R27, R28). The FALLBACK entry is the fallback field of the setup. -/
structure Demand where
  lockout          : Bool := false
  panel            : Option Held := none
  climate          : Option Held := none
  cap              : Option Held := none
  envFloor         : Nat := 0
  envCeiling       : Nat := 1000
  floor            : Nat := 0
  ceiling          : Nat := 1000
  governing        : Source := .fallback
  target           : Nat := 0
  conflict         : Bool := false
  displacedClimate : Option Source := none
  displacedPanel   : Option Source := none
  deriving DecidableEq, Repr

/-- A set of drive fault kinds. -/
structure FaultSet where
  bothEnds        : Bool := false
  wrongEnd        : Bool := false
  tripLimit       : Bool := false
  cardAbsent      : Bool := false
  stall           : Bool := false
  trip            : Bool := false
  endSwitchMissed : Bool := false
  deriving DecidableEq, Repr

/-- The fault table entry of a drive (06 R139). The active kinds are computed (Machine/Flags.lean) from the cause, the
motion state and `bothHeld`, which says that BOTH_ENDS was reported and both switches have been active since. -/
structure DriveFaults where
  latched   : FaultSet := {}
  tripCount : Nat := 0
  bothHeld  : Bool := false
  deriving DecidableEq, Repr

/-- The inputs of a channel: the levels at the pins, and the levels the drive controller last took. The two differ only
while the unit is held in reset, when inputs are not taken (10 R205). -/
structure Pins where
  closedPin   : Bool := false
  openPin     : Bool := false
  closedTaken : Bool := false
  openTaken   : Bool := false
  /-- the trip contact is active at the pin: it stands open (06 R128) -/
  tripPin     : Bool := false
  /-- the trip contact is active as last taken (06 R128; log entry 43) -/
  tripOpen    : Bool := false
  deriving DecidableEq, Repr

/-- One value for each master port. -/
structure PerPort (α : Type) where
  climate : α
  heat    : α
  panel   : α
  deriving DecidableEq, Repr

/-- Everything the unit holds for one drive. `subs` is the drive's subscriber set (09 R192). -/
structure DriveRec where
  book   : Book := {}
  motion : Motion := {}
  demand : Demand := {}
  faults : DriveFaults := {}
  pins   : Pins := {}
  subs   : PerPort Bool := ⟨false, false, false⟩
  deriving DecidableEq, Repr

/-! ### The blocks of the compartment -/

/-- One value for each side. -/
structure PerSide (α : Type) where
  windward : α
  leeward  : α
  deriving DecidableEq, Repr

/-- A held observation (03 R56, R58). -/
structure Observation where
  mast      : Nat
  mean      : Nat
  gust      : Nat
  direction : Option Nat
  rain      : Bool
  snow      : Bool
  temp      : Option Int
  deriving DecidableEq, Repr

/-- A pair of bounds on its way from the envelope unit to the demand table (03 R70; log entry 4). -/
structure Push where
  drive   : Drive
  floor   : Nat
  ceiling : Nat
  deriving DecidableEq, Repr

/-- The envelope unit (03 R56), in the state of 03 R79. A computed ceiling is absent while the observation is. -/
structure Envelope where
  observation : Option Observation := none
  age         : Nat := 0
  weather     : Weather := .stale
  stale       : Option Nat := some 3000
  effective   : Option Nat := none
  computed    : PerSide (Option Nat) := ⟨none, none⟩
  held        : PerSide Nat := ⟨1000, 1000⟩
  release     : PerSide (Option Nat) := ⟨none, none⟩
  rain        : Bool := false
  snow        : Bool := false
  frostFloor  : Nat := 550
  pushes      : List Push := []
  deriving DecidableEq, Repr

/-- An entry of the start queue (05 R113). -/
structure Entry where
  drive      : Drive
  direction  : Direction
  protective : Bool
  arrival    : Nat
  deriving DecidableEq, Repr

/-- The start arbiter (05 R113), in the state of 05 R126. The first arrival after a reset is 0 (log entry 49). The slot limit and the spacing stand in the compartment
setup. -/
structure Arbiter where
  holders     : List Drive := []
  queue       : List Entry := []
  nextArrival : Nat := 0
  spacing     : Option Nat := none
  restart     : Option Nat := some 300
  deriving DecidableEq, Repr

/-- The fault summary (06 R141). -/
structure Summary where
  kind     : Option FaultKind := none
  drive    : Option Drive := none
  multiple : Bool := false
  deriving DecidableEq, Repr

/-- The compartment's part of the fault table (06 R139), empty as 06 R145 says. -/
structure CompartmentFaults where
  staleActive   : Bool := false
  staleLatched  : Bool := false
  storeActive   : Bool := false
  storeLatched  : Bool := false
  summary       : Summary := {}
  deriving DecidableEq, Repr

/-- The markers of a sweep's end (07 R151). -/
structure Markers where
  found       : Bool := false
  exhausted   : Bool := false
  skippedSome : Bool := false
  cancelled   : Bool := false
  deriving DecidableEq, Repr

/-- A sweep context (07 R151). A result is present exactly when a completion order is. Cleared as 07 R167 says. -/
structure SweepCtx where
  state      : SweepState := .idle
  completion : Option Nat := none
  owner      : Port := .climate
  kind       : SweepKind := .set
  group      : Nat := 0
  members    : List Drive := []
  order      : SweepOrder := .forward
  value      : Nat := 0
  wait       : Bool := false
  condition  : Condition := .offTarget
  tolerance  : Nat := 0
  nextIndex  : Option Nat := none
  inHand     : Option Nat := none
  processed  : Nat := 0
  skipped    : Nat := 0
  markers    : Markers := {}
  foundPlace : Option Nat := none
  foundDrive : Option Drive := none
  deriving DecidableEq, Repr

/-- The sweep engine (07 R151, R152). The first completion order after a reset is 0 (log entry 49). -/
structure Sweeps where
  one            : SweepCtx := {}
  two            : SweepCtx := {}
  pointer        : Context := .one
  nextCompletion : Nat := 0
  deriving DecidableEq, Repr

/-- A frame without its envelope: kind, tag and payload (08 R170, R187). Requests and replies are held so. -/
structure Frame where
  kind    : Byte
  tag     : Byte
  payload : List Byte
  deriving DecidableEq, Repr

/-- A receiver (08 R170, R171): HUNTING, or IN_FRAME with the bytes received after the start byte. -/
inductive Receiver where
  | hunting
  | inFrame (bytes : List Byte)
  deriving DecidableEq, Repr

/-- What the port unit holds for a master port (08 R170), in the state of 08 R186. `sending` holds the bytes of the
frame on the line; `quiet` says that more than 2 ms have passed since the last byte arrived (08 R183); `fresh` is the
model's own: the subjects marked in the event in hand (log entry 10). -/
structure MasterPort where
  receiver   : Receiver := .hunting
  inbound    : List Frame := []
  replies    : List Frame := []
  notices    : List Subject := []
  sending    : Option (List Byte) := none
  lastSource : LastSource := .notice
  sequence   : Byte := 0
  quiet      : Bool := true
  fresh      : Nat := 0
  deriving DecidableEq, Repr

/-- A save in flight (10 R202): the copy taken at its beginning, and the time since. -/
structure Save where
  copy    : Image
  elapsed : Nat
  deriving DecidableEq, Repr

/-- The settings store (10 R201) but for the working copy. `crc` is the CRC that stands with the stored image, and `intact`
is the outcome of their check: a partly written image fails it whatever its bits are (10 R202; log entries 13, 14). The image
of a cold start that passes bears the CRC of its parts. -/
structure Store where
  stored        : Image := {}
  crc           : BitVec 32 := Config.imageCrc {}
  intact        : Bool := true
  save          : Option Save := none
  pendingSave   : Bool := false
  deferredReset : Bool := false
  imageFailed   : Bool := false
  present       : Vector Bool 6 := Vector.replicate 6 true
  deriving DecidableEq, Repr

/-- The reasons a step of the unit could stop with a fault: none. The manual gives every command an effect in every
state (log entry 30), so this type is empty. -/
inductive Fault
  deriving DecidableEq, Repr

/-- The reasons a command could have no meaning. -/
inductive Refusal where
  /-- Raised by `exec` alone, for a command whose meaning is not written yet. Safe: the model stops where the unit
  goes on. No command is refused now. -/
  | notModelled (mnemonic : String)
  deriving DecidableEq, Repr

/-- The state of the unit. `pending` is the queue of waiting commands, first in, first out. `freeCount` counts the
free values used and `granted` says that the event in hand has made its grant (05 R118); both are the model's own
(log entries 10, 28). -/
structure State where
  drives      : Vector DriveRec 24
  envelope    : Envelope
  arbiter     : Arbiter
  faults      : CompartmentFaults
  sweeps      : Sweeps
  ports       : PerPort MasterPort
  weatherRx   : Receiver
  turn        : Port
  envSubs     : PerPort Bool
  settings    : Settings
  store       : Store
  held        : Bool
  resetLine   : Bool
  freeCount   : Nat
  granted     : Bool
  pending     : List Instr
  deriving DecidableEq, Repr

/-- The unit right after a cold reset (01 R25, 02 R54, 03 R79, 04 R111, 05 R126, 06 R145, 07 R167, 08 R186, 09 R199,
10 R204) whose stored image is the factory image, with every card present and every contact at rest (log entry 7). -/
def State.reset : State where
  drives    := Vector.replicate 24 {}
  envelope  := {}
  arbiter   := {}
  faults    := {}
  sweeps    := {}
  ports     := ⟨{}, {}, {}⟩
  weatherRx := .hunting
  turn      := .climate
  envSubs   := ⟨false, false, false⟩
  settings  := {}
  store     := {}
  held      := false
  resetLine := false
  freeCount := 0
  granted   := false
  pending   := []

end Sys2Proof.Machine
end

