-- ==== Sys2Proof/Machine/Arith.lean ====
section
/-! DEFINITION. The integer arithmetic of 00_scope 5.4, and lists in the orders the model leaves free. -/

namespace Sys2Proof.Machine

/-- The quotient rounded up ("ceil", 00_scope 5.4). -/
def ceilDiv (a b : Nat) : Nat := (a + (b - 1)) / b

/-- The quotient rounded half up (00_scope 5.4), as 01 R7 writes it out: the dividend plus half the divisor rounded
down, divided and rounded down. -/
def roundHalfUp (a b : Nat) : Nat := (a + b / 2) / b

/-- The distance of two whole numbers. -/
def dist (a b : Nat) : Nat := max a b - min a b

/-- A whole number clamped to a range (00_scope 5.4). -/
def clampNat (lo hi n : Nat) : Nat := max lo (min hi n)

/-- An integer clamped to a range (00_scope 5.4). -/
def clampInt (lo hi n : Int) : Int := max lo (min hi n)

/-- The circular difference of two directions in degrees (00_scope 5.4). -/
def circularDiff (d f : Nat) : Nat := min (dist d f) (360 - dist d f)

/-- `start` moved by `by_` toward `aim`, limited so that it does not pass `aim` (01 R7, R12). -/
def moveToward (start aim by_ : Nat) : Nat :=
  if start ≤ aim then min aim (start + by_) else max aim (start - by_)

/-- One tenth less of a timer that runs; a timer that stands at its end stays there. -/
def runDown (t : Option Nat) : Option Nat := t.map (· - 1)

/-- `x` put into `l` before place `i`. -/
def insertAt {α : Type} (i : Nat) (x : α) (l : List α) : List α := l.take i ++ x :: l.drop i

/-- `l` in an order nothing constrains: each element but the last is put at a free place of what follows it. A list
of at most one element needs no free value (log entries 11, 12). -/
def arrange {α : Type} (k : Nat) : List α → List α
  | [] => []
  | [x] => [x]
  | x :: y :: rest => insertAt (Config.pick k % (rest.length + 2)) x (arrange (k + 1) (y :: rest))

/-- Every drive in ascending number. -/
def allDrives : List Drive := List.finRange 24

/-- Every drive once, those named by `order` first (log entry 9). -/
def drivesIn (order : List Drive) : List Drive :=
  order.eraseDups ++ allDrives.filter (fun d => !order.contains d)

/-- The three master ports in the cycle of 08 R173. -/
def allPorts : List Port := [.climate, .heat, .panel]

/-- The port that follows in the cycle CLIMATE, HEAT, PANEL, CLIMATE (08 R173). -/
def nextPort : Port → Port
  | .climate => .heat
  | .heat => .panel
  | .panel => .climate

/-- The position of an end (00_scope section 4). -/
def endPosition : End → Nat
  | .closed => 0
  | .opened => 1000

/-- The other end. -/
def otherEnd : End → End
  | .closed => .opened
  | .opened => .closed

/-- The end a direction leads to (00_scope 5.3). -/
def endOf : Direction → End
  | .opening => .opened
  | .closing => .closed

/-- The direction that leads to an end (00_scope 5.3). -/
def directionTo : End → Direction
  | .opened => .opening
  | .closed => .closing

/-- The end that stands at a position, if one does (00_scope section 4: end). -/
def endAt (p : Nat) : Option End :=
  if p = 0 then some .closed else if p = 1000 then some .opened else none

end Sys2Proof.Machine
end

