-- ==== Sys2Proof/Machine/Ops.lean ====
section
/-! DEFINITION. The named operations over the state: reading and writing one drive, one port or one block, and marking a
subject pending (09 R195). The unit has no addressed memory (INVENTORY.md, Memory and ordering) and no exception entry. -/

namespace Sys2Proof.Machine

/-! ### One value per port, side and context -/

/-- The value of one port. -/
def PerPort.get {α : Type} (v : PerPort α) : Port → α
  | .climate => v.climate
  | .heat => v.heat
  | .panel => v.panel

/-- `v` with another value for one port. -/
def PerPort.set {α : Type} (v : PerPort α) (p : Port) (x : α) : PerPort α :=
  match p with
  | .climate => { v with climate := x }
  | .heat => { v with heat := x }
  | .panel => { v with panel := x }

/-- The value of one side. -/
def PerSide.get {α : Type} (v : PerSide α) : Side → α
  | .windward => v.windward
  | .leeward => v.leeward

/-- `v` with another value for one side. -/
def PerSide.set {α : Type} (v : PerSide α) (x : Side) (a : α) : PerSide α :=
  match x with
  | .windward => { v with windward := a }
  | .leeward => { v with leeward := a }

/-- One sweep context. -/
def Sweeps.get (w : Sweeps) : Context → SweepCtx
  | .one => w.one
  | .two => w.two

/-- `w` with another record for one context. -/
def Sweeps.set (w : Sweeps) (c : Context) (x : SweepCtx) : Sweeps :=
  match c with
  | .one => { w with one := x }
  | .two => { w with two := x }

/-! ### Drives -/

/-- What the unit holds for a drive. -/
def State.drive (s : State) (d : Drive) : DriveRec := s.drives[d]

/-- `s` with another record for a drive. -/
def State.setDrive (s : State) (d : Drive) (r : DriveRec) : State :=
  { s with drives := s.drives.set d r }

/-- The working setup of a drive (10 R201). -/
def State.setup (s : State) (d : Drive) : Setup := s.settings.setups[d]

/-- The working compartment setup (10 R201). -/
def State.comp (s : State) : Compartment := s.settings.compartment

/-- `s` with another motion record for a drive. -/
def State.withMotion (s : State) (d : Drive) (m : Motion) : State :=
  s.setDrive d { s.drive d with motion := m }

/-- `s` with another demand table entry for a drive. -/
def State.withDemand (s : State) (d : Drive) (m : Demand) : State :=
  s.setDrive d { s.drive d with demand := m }

/-- `s` with another fault table entry for a drive. -/
def State.withFaults (s : State) (d : Drive) (f : DriveFaults) : State :=
  s.setDrive d { s.drive d with faults := f }

/-- `s` with other inputs of a channel. -/
def State.withPins (s : State) (d : Drive) (p : Pins) : State :=
  s.setDrive d { s.drive d with pins := p }

/-- `s` with another position book entry for a drive, and nothing else changed. -/
def State.withBook (s : State) (d : Drive) (b : Book) : State :=
  s.setDrive d { s.drive d with book := b }

/-- `s` with another subscriber set for a drive. -/
def State.withSubs (s : State) (d : Drive) (v : PerPort Bool) : State :=
  s.setDrive d { s.drive d with subs := v }

/-- `s` with another working setup for a drive. -/
def State.withSetup (s : State) (d : Drive) (u : Setup) : State :=
  { s with settings := { s.settings with setups := s.settings.setups.set d u } }

/-! ### Blocks -/

/-- `s` with another envelope unit. -/
def State.withEnvelope (s : State) (e : Envelope) : State := { s with envelope := e }

/-- `s` with another start arbiter. -/
def State.withArbiter (s : State) (a : Arbiter) : State := { s with arbiter := a }

/-- `s` with another compartment part of the fault table. -/
def State.withCompFaults (s : State) (f : CompartmentFaults) : State := { s with faults := f }

/-- `s` with another sweep engine. -/
def State.withSweeps (s : State) (w : Sweeps) : State := { s with sweeps := w }

/-- `s` with another settings store. -/
def State.withStore (s : State) (st : Store) : State := { s with store := st }

/-- One master port. -/
def State.port (s : State) (p : Port) : MasterPort := s.ports.get p

/-- `s` with another record for a master port. -/
def State.setPort (s : State) (p : Port) (q : MasterPort) : State :=
  { s with ports := s.ports.set p q }

/-- One sweep context of the state. -/
def State.sweep (s : State) (c : Context) : SweepCtx := s.sweeps.get c

/-- `s` with another record for a sweep context. -/
def State.setSweep (s : State) (c : Context) (x : SweepCtx) : State :=
  s.withSweeps (s.sweeps.set c x)

/-! ### Marking subjects -/

/-- 09 R195: a subject that is pending keeps its place; another joins the tail. Subjects marked in one event may stand
in either order: one after the first is put at a free place among them (log entry 10). -/
def MasterPort.marked (q : MasterPort) (k : Nat) (x : Subject) : MasterPort :=
  if x ∈ q.notices then q
  else if q.fresh = 0 then { q with notices := q.notices ++ [x], fresh := 1 }
  else { q with notices := insertAt (q.notices.length - Config.pick k % (q.fresh + 1)) x q.notices,
                fresh := q.fresh + 1 }

/-- A subject is marked pending in one port's notice queue (09 R195). -/
def State.mark (s : State) (p : Port) (x : Subject) : State :=
  { s.setPort p ((s.port p).marked s.freeCount x) with freeCount := s.freeCount + 1 }

/-- A subject is marked pending at the tail, after every subject marked before it (09 R193: "in list order"). -/
def State.markInTurn (s : State) (p : Port) (x : Subject) : State :=
  let q := s.port p
  if x ∈ q.notices then s else s.setPort p { q with notices := q.notices ++ [x], fresh := 0 }

/-- A subject is marked pending in the queue of each port of a subscriber set (09 R196). -/
def State.markFor (s : State) (subs : PerPort Bool) (x : Subject) : State :=
  allPorts.foldl (fun s p => if subs.get p then s.mark p x else s) s

/-- DRIVE_STATE of a drive becomes due to the drive's subscribers (04 R108, 09 R196). -/
def State.markDrive (s : State) (d : Drive) : State := s.markFor (s.drive d).subs (.driveState d)

/-- ENVELOPE becomes due to the envelope's subscribers (03 R71, 09 R196). -/
def State.markEnvelope (s : State) : State := s.markFor s.envSubs .envelope

/-- FAULT_SUMMARY becomes due on all three master ports (06 R142, 09 R196). -/
def State.markSummary (s : State) : State := s.markFor ⟨true, true, true⟩ .faultSummary

/-! ### Events -/

/-- The three ports with no subject counted as marked in the event in hand. -/
def State.clearFresh (s : State) : State :=
  { s with ports := ⟨{ s.ports.climate with fresh := 0 }, { s.ports.heat with fresh := 0 },
                     { s.ports.panel with fresh := 0 }⟩ }

/-- The model's own marks of the event in hand are cleared (log entries 10, 28). -/
def State.clearEvent (s : State) : State := { s.clearFresh with granted := false }

end Sys2Proof.Machine
end

