-- ==== Sys2Proof/Machine/Flags.lean ====
section
/-! DEFINITION. The fault table (06 section 6.5): active and latched kinds, trip counts, the summary, and the reports that
change them. -/

namespace Sys2Proof.Machine

/-- The drive fault kinds, highest priority first (06 R139). -/
def driveFaults : List DriveFault :=
  [.bothEnds, .wrongEnd, .tripLimit, .cardAbsent, .stall, .trip, .endSwitchMissed]

/-- Whether a kind is in a set. -/
def FaultSet.has (f : FaultSet) : DriveFault → Bool
  | .bothEnds => f.bothEnds
  | .wrongEnd => f.wrongEnd
  | .tripLimit => f.tripLimit
  | .cardAbsent => f.cardAbsent
  | .stall => f.stall
  | .trip => f.trip
  | .endSwitchMissed => f.endSwitchMissed

/-- A set with one kind added. -/
def FaultSet.add (f : FaultSet) (k : DriveFault) : FaultSet :=
  match k with
  | .bothEnds => { f with bothEnds := true }
  | .wrongEnd => { f with wrongEnd := true }
  | .tripLimit => { f with tripLimit := true }
  | .cardAbsent => { f with cardAbsent := true }
  | .stall => { f with stall := true }
  | .trip => { f with trip := true }
  | .endSwitchMissed => { f with endSwitchMissed := true }

/-- The kinds that two sets share. -/
def FaultSet.inter (f g : FaultSet) : FaultSet :=
  { bothEnds := f.bothEnds && g.bothEnds, wrongEnd := f.wrongEnd && g.wrongEnd,
    tripLimit := f.tripLimit && g.tripLimit, cardAbsent := f.cardAbsent && g.cardAbsent,
    stall := f.stall && g.stall, trip := f.trip && g.trip,
    endSwitchMissed := f.endSwitchMissed && g.endSwitchMissed }

/-- The active kinds of a drive (06 R139): the FAULTED cause; BOTH_ENDS while both switches are active; CARD_ABSENT
while the drive is ABSENT. -/
def DriveRec.active (r : DriveRec) : FaultSet :=
  { bothEnds := r.motion.cause == some .bothEnds || r.faults.bothHeld,
    wrongEnd := r.motion.cause == some .wrongEnd,
    tripLimit := r.motion.cause == some .tripLimit,
    cardAbsent := r.motion.state == .absent }

/-- The latched pairs of the whole compartment, highest priority first and within a kind the lowest drive number
first (06 R141). -/
def State.latchedPairs (s : State) : List (FaultKind × Option Drive) :=
  driveFaults.flatMap (fun k =>
    (allDrives.filter (fun d => (s.drive d).faults.latched.has k)).map (fun d => (FaultKind.ofDrive k, some d)))
  ++ (if s.faults.staleLatched then [(FaultKind.ofCompartment .weatherStale, none)] else [])
  ++ (if s.faults.storeLatched then [(FaultKind.ofCompartment .storeInvalid, none)] else [])

/-- The summary of a list of latched pairs in the order of `latchedPairs` (06 R141). -/
def summaryOf : List (FaultKind × Option Drive) → Summary
  | [] => {}
  | (k, d) :: rest => { kind := some k, drive := d, multiple := !rest.isEmpty }

/-- The summary is computed again; a change marks FAULT_SUMMARY on every master port (06 R140 to R142). -/
def State.refreshSummary (s : State) : State :=
  let new := summaryOf s.latchedPairs
  if new = s.faults.summary then s
  else (s.withCompFaults { s.faults with summary := new }).markSummary

/-- A report of a kind latches it for its drive; a kind already latched is left as it stands (06 R140). -/
def State.report (s : State) (d : Drive) (k : DriveFault) : State :=
  let f := (s.drive d).faults
  if f.latched.has k then s.refreshSummary
  else ((s.withFaults d { f with latched := f.latched.add k }).markDrive d).refreshSummary

/-- A TRIP or STALL report also adds one to the trip count, which saturates at 255 (06 R139, R140). -/
def State.countTrip (s : State) (d : Drive) : State :=
  let f := (s.drive d).faults
  s.withFaults d { f with tripCount := min 255 (f.tripCount + 1) }

/-- WEATHER_STALE is reported: latched and active (03 R72, 06 R140). A summary that changes by it marks FAULT_SUMMARY on all
three ports, at the first stale expiry after a reset too (06 R142; log entry 52). -/
def State.reportStale (s : State) : State :=
  (s.withCompFaults { s.faults with staleActive := true, staleLatched := true }).refreshSummary

/-- The stale condition has ended: WEATHER_STALE ceases to be active and stays latched (03 R73, 06 R140). -/
def State.endStale (s : State) : State :=
  (s.withCompFaults { s.faults with staleActive := false }).refreshSummary

/-- STORE_INVALID is reported: latched and active (10 R204, 06 R140). -/
def State.reportStore (s : State) : State :=
  (s.withCompFaults { s.faults with storeActive := true, storeLatched := true }).refreshSummary

/-- STORE_INVALID ceases to be active and stays latched (10 R202, 06 R140). -/
def State.endStore (s : State) : State :=
  (s.withCompFaults { s.faults with storeActive := false }).refreshSummary

/-- Both switches of a drive are no longer both active: BOTH_ENDS held by the switches ends, and DRIVE_STATE is due if
the drive's active kinds changed by it (06 R140). -/
def State.endBothHeld (s : State) (d : Drive) : State :=
  let r := s.drive d
  let s1 := s.withFaults d { r.faults with bothHeld := false }
  if (s1.drive d).active = r.active then s1 else s1.markDrive d

/-- One drive's part of ACK_FAULTS (06 R143): latched kinds that are not active are cleared and the trip count becomes
0; a change of the latched kinds makes DRIVE_STATE due. -/
def State.ackDrive (s : State) (d : Drive) : State :=
  let r := s.drive d
  let left := r.faults.latched.inter r.active
  let s1 := s.withFaults d { r.faults with latched := left, tripCount := 0 }
  if left = r.faults.latched then s1 else s1.markDrive d

/-- ACK_FAULTS at the fault table, the whole table in one event (06 R143). -/
def State.ackAll (s : State) : State :=
  let s1 := allDrives.foldl State.ackDrive s
  (s1.withCompFaults { s1.faults with
    staleLatched := s1.faults.staleLatched && s1.faults.staleActive,
    storeLatched := s1.faults.storeLatched && s1.faults.storeActive }).refreshSummary

/-- The fault table empty, with every trip count 0 and the summary none (06 R145, R146). -/
def State.clearFaults (s : State) : State :=
  allDrives.foldl (fun s d => s.withFaults d {}) (s.withCompFaults {})

end Sys2Proof.Machine
end

