-- ==== Sys2Proof/Machine/Book.lean ====
section
/-! DEFINITION. The position book (chapter 1): the plans of runs and trains, the position at each moment, accumulated travel,
and the four ways a position becomes known again. -/

namespace Sys2Proof.Machine

/-! ### Quantities of a setup -/

/-- T, the stroke time in a direction (01 section 1.3). -/
def Setup.stroke (u : Setup) : Direction → Nat
  | .opening => u.strokeOpen
  | .closing => u.strokeClose

/-- The overrun time of a run in a direction (01 R6). -/
def Setup.overrunTime (u : Setup) (dir : Direction) : Nat := ceilDiv (u.overrun * u.stroke dir) 100

/-- The overrun length of a SCREEN in pulses (01 R16). -/
def Setup.overrunPulses (u : Setup) : Nat := ceilDiv (u.overrun * u.pps) 100

/-- The travel time of a distance plus, toward an end, the overrun time: the planned time of 01 R6 less the lag, and
the owed on-time of 01 R11. -/
def Setup.driveTime (u : Setup) (dir : Direction) (start aim : Nat) : Nat :=
  ceilDiv (dist aim start * u.stroke dir) 1000 + (if (endAt aim).isSome then u.overrunTime dir else 0)

/-- The time of a homing run less the lag: stroke_close plus its overrun time (01 R24). -/
def Setup.homeTime (u : Setup) : Nat := u.strokeClose + u.overrunTime .closing

/-- The count of a position (01 R13: target count). -/
def Setup.countOf (u : Setup) (position : Nat) : Nat := roundHalfUp (position * u.pps) 1000

/-- The position of a count (01 R13). -/
def Setup.positionOf (u : Setup) (count : Nat) : Nat := roundHalfUp (count * 1000) u.pps

/-- The count a SCREEN has at an end; 0 for other kinds, whose count is held at 0 (01 R2, R17). -/
def Setup.endCount (u : Setup) (e : End) : Nat :=
  match u.kind, e with
  | .screen, .opened => u.pps
  | _, _ => 0

/-- Whether an end has its switch fitted (01 R1). -/
def Setup.fitted (u : Setup) : End → Bool
  | .closed => u.closedSwitch
  | .opened => u.openSwitch

/-! ### Plans -/

/-- The plan of a run of a VENT (01 R6), with the lag given apart for a re-plan (01 R10). -/
def ventPlan (u : Setup) (dir : Direction) (start aim lag : Nat) : VentPlan :=
  { start, aim, lag, planned := lag + u.driveTime dir start aim, timer := 0 }

/-- The plan of a homing run of a VENT (01 R24, 04 R102). -/
def ventHomePlan (u : Setup) (start lag : Nat) : VentPlan :=
  { start, aim := 0, lag, planned := lag + u.homeTime, timer := 0 }

/-- The plan of a run of a SCREEN (01 R13, R16). -/
def screenPlan (u : Setup) (aim : Nat) : ScreenPlan := { aim, targetCount := u.countOf aim, tally := 0 }

/-- What remains of a lag once the run timer has run for `timer` (01 R10). -/
def VentPlan.lagLeft (p : VentPlan) : Nat := p.lag - p.timer

/-- The length of a pulse that starts, or is in hand, with `pulseOn` read at its start (01 R11, 04 R99). -/
def Train.pulseLength (t : Train) (pulseOn lag : Nat) : Nat := min pulseOn (t.owed - t.done + lag)

/-! ### The position at each moment -/

/-- The interpolated position of a VENT (01 R7). -/
def VentPlan.position (p : VentPlan) (stroke : Nat) : Nat :=
  moveToward p.start p.aim (roundHalfUp ((p.timer - p.lag) * 1000) stroke)

/-- The position of a VALVE after `served` tenths of on-time (01 R12). -/
def Train.position (t : Train) (stroke served : Nat) : Nat :=
  moveToward t.start t.aim (roundHalfUp (served * 1000) stroke)

/-- The on-time served at this moment of a pulse (01 R12). -/
def Train.served (t : Train) (lag : Nat) : Nat := t.done + (t.elapsed - lag)

/-- The position of a drive at this moment: for a RUNNING drive the interpolated position, otherwise the position
book's (01 R2, R7, R12, R13). -/
def DriveRec.livePosition (u : Setup) (r : DriveRec) : Nat :=
  if r.motion.state = .running then
    match r.motion.run, r.motion.train with
    | some (.vent p), _ => p.position (u.stroke r.motion.direction)
    | some (.screen _), _ => r.book.position
    | none, some t => t.position (u.stroke r.motion.direction) (t.served u.startLag)
    | none, none => r.book.position
  else r.book.position

/-- The position of a drive at this moment. -/
def State.livePosition (s : State) (d : Drive) : Nat := (s.drive d).livePosition (s.setup d)

/-! ### Accumulated travel (01 R22) -/

/-- The accumulated travel grows by a distance, saturating at 65535; above rereference_distance a REFERENCED drive
becomes ESTIMATED (01 R22). -/
def Book.grow (b : Book) (limit by_ : Nat) : Book :=
  let t := min 65535 (b.travel + by_)
  { b with travel := t, knowledge := if limit < t ∧ b.knowledge = .referenced then .estimated else b.knowledge }

/-! ### Writing the position book -/

/-- The missed end after a change of the position book: cleared when the position has changed away from it or the
knowledge has changed (04 R84). The interpolated position of a run or pulse in hand clears nothing before the book is
written (log entry 39). -/
def missedAfter (missed : Option End) (old new : Book) : Option End :=
  match missed with
  | some e => if new.knowledge = old.knowledge ∧ new.position = endPosition e then some e else none
  | none => none

/-- The position book of a drive takes new values; a change of knowledge makes DRIVE_STATE due (04 R108). -/
def State.setBook (s : State) (d : Drive) (b : Book) : State :=
  let r := s.drive d
  let s1 := s.setDrive d { r with book := b,
                                  motion := { r.motion with missedEnd := missedAfter r.motion.missedEnd r.book b } }
  if b.knowledge = r.book.knowledge then s1 else s1.markDrive d

/-- The accumulated travel of a drive grows (01 R22). -/
def State.growTravel (s : State) (d : Drive) (by_ : Nat) : State :=
  s.setBook d ((s.drive d).book.grow s.comp.rereferenceDistance by_)

/-- The knowledge of a drive takes a value. -/
def State.setKnowledge (s : State) (d : Drive) (k : Knowledge) : State :=
  s.setBook d { (s.drive d).book with knowledge := k }

/-- REFERENCED becomes ESTIMATED; the other states stay (01 R5, R15, R20, R22; 06 R130). -/
def State.lowerKnowledge (s : State) (d : Drive) : State :=
  if (s.drive d).book.knowledge = .referenced then s.setKnowledge d .estimated else s

/-- The drive is referenced at an end (01 R17, R21): position and count at the end, REFERENCED, accumulated travel 0,
and travel reckoned from there (01 R22; log entry 17). -/
def State.reference (s : State) (d : Drive) (e : End) : State :=
  let s1 := s.setBook d { position := endPosition e, count := (s.setup d).endCount e, knowledge := .referenced,
                          travel := 0 }
  s1.withMotion d { (s1.drive d).motion with travelBase := endPosition e }

/-- The outcome of a completed overrun at an end (01 R21, 04 R90): with no switch fitted the drive is referenced;
with a switch fitted and not seen the drive is ESTIMATED at the end, END_SWITCH_MISSED is reported and the missed end
names that end. The travel of the run has been reckoned before. -/
def State.overrunOutcome (s : State) (d : Drive) (e : End) : State :=
  if (s.setup d).fitted e then
    let b := (s.drive d).book
    let s1 := s.setBook d { b with position := endPosition e, count := (s.setup d).endCount e,
                                   knowledge := .estimated }
    let s2 := s1.withMotion d { (s1.drive d).motion with missedEnd := some e }
    s2.report d .endSwitchMissed
  else s.reference d e

/-- The coast window of a SCREEN closes and the travel of its last run is reckoned (01 R14, R22). -/
def State.closeCoast (s : State) (d : Drive) : State :=
  let r := s.drive d
  match r.motion.coast with
  | none => s
  | some _ =>
    let s1 := s.withMotion d { r.motion with coast := none }
    s1.growTravel d (dist r.book.position r.motion.travelBase)

/-- The position book after a change of setup (01 R5), each case in the order listed. A change of stroke_open or
stroke_close counts for every kind (log entry 50). -/
def Book.afterSetup (b : Book) (old new : Setup) : Book :=
  if new.kind ≠ old.kind then {}
  else
    let b1 := if new.pps ≠ old.pps ∧ new.kind = .screen then
        { b with count := new.countOf b.position, knowledge := .unknown }
      else b
    if (new.strokeOpen ≠ old.strokeOpen ∨ new.strokeClose ≠ old.strokeClose) ∧ b1.knowledge = .referenced then
      { b1 with knowledge := .estimated }
    else b1

end Sys2Proof.Machine
end

