-- ==== Sys2Proof/Machine/Seek.lean ====
section
/-! DEFINITION. Whether a drive seeks motion, and with what purpose, aim and direction (04 R84, R85, 01 R23). -/

namespace Sys2Proof.Machine

/-- What a drive that seeks motion chooses (04 R85). -/
structure Choice where
  purpose   : Purpose
  aim       : Nat
  direction : Direction
  deriving DecidableEq, Repr

/-- The end that end snap takes as the aim (01 R23), unless the missed end names it (04 R84). -/
def snapEnd (band : Nat) (u : Setup) (r : DriveRec) : Option End :=
  let t := r.demand.target
  if r.book.knowledge = .estimated then
    if u.fitted .closed = true ∧ 0 < t ∧ t ≤ band ∧ r.motion.missedEnd ≠ some .closed then some .closed
    else if u.fitted .opened = true ∧ t < 1000 ∧ 1000 - t ≤ band ∧ r.motion.missedEnd ≠ some .opened then some .opened
    else none
  else none

/-- The direction of a run from `position` to `aim`: for an aim equal to the position, which happens at an end, the
direction toward that end (01 R6, 04 R85). -/
def directionFor (position aim : Nat) : Direction :=
  if position < aim then .opening
  else if aim < position then .closing
  else if aim = 0 then .closing else .opening

/-- The aim of a run of purpose MOVE (04 R85). -/
def moveAim (band : Nat) (u : Setup) (r : DriveRec) : Nat :=
  match snapEnd band u r with
  | some e => endPosition e
  | none => r.demand.target

/-- The choice of a drive that seeks motion (04 R85). -/
def choose (band : Nat) (u : Setup) (r : DriveRec) : Choice :=
  if r.book.knowledge = .unknown ∨ r.motion.homeMarker = true then
    { purpose := .home, aim := 0, direction := .closing }
  else
    let a := moveAim band u r
    { purpose := .move, aim := a, direction := directionFor r.book.position a }

/-- Whether a drive stands away from its target (04 R84, the third and fourth cases). -/
def awayFromTarget (u : Setup) (r : DriveRec) : Bool :=
  let t := r.demand.target
  match endAt t with
  | none => decide (u.deadband < dist t r.book.position) && !(u.kind == .screen && r.book.count == u.countOf t)
  | some e => r.book.position != t || (r.book.knowledge != .referenced && r.motion.missedEnd != some e)

/-- Whether a drive seeks motion (04 R84). An UNKNOWN drive seeks it only where a drive of any other knowledge not
REFERENCED would. -/
def seeks (u : Setup) (r : DriveRec) : Bool :=
  u.kind != .unused && (r.motion.homeMarker || awayFromTarget u r)

/-- The choice of a drive in this state. -/
def State.choice (s : State) (d : Drive) : Choice := choose s.comp.endSnapBand (s.setup d) (s.drive d)

/-- Whether a drive seeks motion in this state. -/
def State.seeksMotion (s : State) (d : Drive) : Bool := seeks (s.setup d) (s.drive d)

end Sys2Proof.Machine
end

