-- ==== Sys2Proof/Machine/Runs.lean ====
section
/-! DEFINITION. How a run or a train begins and ends (04 sections 4.4 to 4.7), trips and stalls (06 R130), and the FAULTED state
(06 R134). -/

namespace Sys2Proof.Machine

/-- The motion state of a drive; a change makes DRIVE_STATE due (04 R108). -/
def State.setMotionState (s : State) (d : Drive) (m : MotionState) : State :=
  if (s.drive d).motion.state = m then s
  else (s.withMotion d { (s.drive d).motion with state := m }).markDrive d

/-- The direction of a drive; a change makes DRIVE_STATE due (04 R108). -/
def State.setDirection (s : State) (d : Drive) (dir : Direction) : State :=
  if (s.drive d).motion.direction = dir then s
  else (s.withMotion d { (s.drive d).motion with direction := dir }).markDrive d

/-- The slot of a drive is released (05 R120). The grant that may follow is made by `State.grantIf`. -/
def State.releaseSlot (s : State) (d : Drive) : State :=
  s.withArbiter { s.arbiter with holders := s.arbiter.holders.filter (· ≠ d) }

/-- The plan of a drive's run or train is dropped with its output: the pulse-gap timer becomes idle (06 R129), a
SCREEN whose output was on opens its coast window (01 R14), and the slot is released (05 R120). The end of a train makes
DRIVE_STATE due, in the pause between two pulses too, where the motion state stays PAUSING (04 R97, R110). -/
def State.clearRun (s : State) (d : Drive) : State :=
  let m := (s.drive d).motion
  let coast := match m.run with
    | some (.screen _) => some { left := Config.coastWindow, direction := m.direction }
    | _ => m.coast
  let s1 := (s.withMotion d { m with run := none, train := none, pulseGap := none, coast := coast }).releaseSlot d
  if m.train.isSome then s1.markDrive d else s1

/-- The output of a drive drops before the end of its run or pulse: the early-stop rule of its kind sets the position
(01 R9, R12; a SCREEN keeps its count) and the accumulated travel grows (01 R22). -/
def State.dropOutput (s : State) (d : Drive) : State :=
  let r := s.drive d
  let p := s.livePosition d
  let limit := s.comp.rereferenceDistance
  let s1 := if r.motion.state = .running then
      match r.motion.run, r.motion.train with
      | some (.vent _), _ => s.setBook d (Book.grow { r.book with position := p } limit (dist p r.motion.travelBase))
      | some (.screen _), _ => s
      | none, some _ => s.setBook d (Book.grow { r.book with position := p } limit (dist p r.book.position))
      | none, none => s
    else s
  s1.clearRun d

/-- The output of a drive drops at the end of a run or train at its aim: the position of a time-positioned drive is
set to the aim exactly and the accumulated travel grows (01 R8, R11, R22). -/
def State.arriveAt (s : State) (d : Drive) (aim : Nat) : State :=
  let r := s.drive d
  let limit := s.comp.rereferenceDistance
  let s1 := match r.motion.run, r.motion.train with
    | some (.vent _), _ => s.setBook d (Book.grow { r.book with position := aim } limit (dist aim r.motion.travelBase))
    | some (.screen _), _ => s
    | none, some _ => s.setBook d (Book.grow { r.book with position := aim } limit (dist aim r.book.position))
    | none, none => s
  s1.clearRun d

/-- A homing run that ends at 0 completes the homing: the home request marker and the missed end are cleared (04 R90,
R101). A later `overrunOutcome` may set the missed end again. -/
def State.completeHoming (s : State) (d : Drive) : State :=
  let m := (s.drive d).motion
  if m.purpose = .home then s.withMotion d { m with homeMarker := false, missedEnd := none } else s

/-- A normal stop (04 R90, R94): the retry count becomes 0 and a settle pause begins. -/
def State.normalStop (s : State) (d : Drive) : State :=
  let m := (s.drive d).motion
  (s.withMotion d { m with retryCount := 0, purpose := .move,
                           pause := some { kind := .settle, left := (s.setup d).reversalPause } }).setMotionState d .pausing

/-- A run or train ends at its aim (04 R90, R97): at an end the overrun is complete and R21 judges it. -/
def State.completeRun (s : State) (d : Drive) (aim : Nat) : State :=
  let s1 := s.arriveAt d aim
  match endAt aim with
  | none => s1.normalStop d
  | some e => ((s1.completeHoming d).overrunOutcome d e).normalStop d

/-- The length of the retry wait in tenths after a trip that took the retry count to `n` (06 R131). -/
def retryWait (base n : Nat) : Nat := min Config.maxRetryWait (base * 10 * 2 ^ (n - 1))

/-- A drive becomes FAULTED with a cause, and the kind is reported (06 R134, R140). Its run, pause and retry wait have
been ended before. -/
def State.becomeFaulted (s : State) (d : Drive) (cause : DriveFault) : State :=
  let m := (s.drive d).motion
  ((s.withMotion d { m with cause := some cause, pause := none, retryLeft := none }).setMotionState d .faulted).report
    d cause

/-- A trip or a stall of a drive (06 R130), each step in the order listed; `kind` is TRIP or STALL. -/
def State.tripped (s : State) (d : Drive) (kind : DriveFault) : State :=
  let u := s.setup d
  let s1 := s.dropOutput d
  let s2 := if u.kind = .screen then
      let m := (s1.drive d).motion
      s1.withMotion d { m with coast := some { left := Config.coastWindow, direction := m.direction } }
    else s1.lowerKnowledge d
  let n := (s2.drive d).motion.retryCount + 1
  let s3 := ((s2.withMotion d { (s2.drive d).motion with retryCount := n, pause := none }).countTrip d).report d kind
  if u.retryLimit < n then s3.becomeFaulted d .tripLimit
  else (s3.withMotion d { (s3.drive d).motion with retryLeft := some (retryWait u.retryBase n) }).setMotionState d
    .retryWait

/-- A pulse of a VALVE train starts (01 R11, 04 R97), or is taken as a trip if the trip contact is active (06 R128). -/
def State.startPulse (s : State) (d : Drive) : State :=
  let r := s.drive d
  let u := s.setup d
  match r.motion.train with
  | none => s
  | some t =>
    if r.pins.tripOpen then s.tripped d .trip
    else
      let t1 := { t with number := t.number + 1, pulseOn := u.pulseOn, pulseOff := u.pulseOff, elapsed := 0,
                         length := t.pulseLength u.pulseOn u.startLag }
      s.withMotion d { r.motion with state := .running, pause := none, train := some t1 }

/-- A VALVE that seeks motion starts a train (01 R11, R24; 04 R97). The start is a change of motion state (04 R97). -/
def State.startTrain (s : State) (d : Drive) : State :=
  let u := s.setup d
  let c := s.choice d
  let s1 := s.setDirection d c.direction
  let r := s1.drive d
  let owed := if c.purpose = .home then u.homeTime else u.driveTime c.direction r.book.position c.aim
  let t : Train := { start := r.book.position, aim := c.aim, owed := owed, done := 0, number := 0, length := 0,
                     pulseOn := u.pulseOn, pulseOff := u.pulseOff, elapsed := 0 }
  ((s1.withMotion d { r.motion with purpose := c.purpose, train := some t, lastProgress := none }).markDrive d).startPulse d

/-- A grant reaches the drive controller of a QUEUED drive (04 R89, 05 R119): the coast window of an earlier run ends,
an active trip contact is taken as a trip, and otherwise the run plan is built and the drive is RUNNING. The window's travel
is reckoned before the choice of 04 R85 is made (01 R14, R22; log entry 47). -/
def State.onGrant (s : State) (d : Drive) : State :=
  let s1 := s.closeCoast d
  let r := s1.drive d
  let u := s1.setup d
  let s2 := s1.withMotion d { r.motion with travelBase := r.book.position, lastProgress := none }
  if r.pins.tripOpen then s2.tripped d .trip
  else
    let c := s2.choice d
    let s3 := s2.setDirection d c.direction
    let m := (s3.drive d).motion
    let run : Run := match u.kind, c.purpose with
      | .screen, _ => .screen (screenPlan u c.aim)
      | _, .home => .vent (ventHomePlan u r.book.position u.startLag)
      | _, .move => .vent (ventPlan u c.direction r.book.position c.aim u.startLag)
    let gap := if u.kind = .screen then some (u.stallGap + u.startLag) else none
    (s3.withMotion d { m with purpose := c.purpose, run := some run, pulseGap := gap }).setMotionState d .running

end Sys2Proof.Machine
end

