-- ==== Sys2Proof/Machine/Arbiter.lean ====
section
/-! DEFINITION. The start arbiter (chapter 5): placing, raising and withdrawing entries, and the grant. -/

namespace Sys2Proof.Machine

/-- The order of the start queue: PROTECTIVE before ORDINARY, within a class by arrival (05 R113). -/
def Entry.before (a b : Entry) : Bool :=
  (a.protective && !b.protective) || (a.protective == b.protective && decide (a.arrival < b.arrival))

/-- An entry put at its place in the queue (05 R114). -/
def insertEntry (e : Entry) : List Entry → List Entry
  | [] => [e]
  | x :: rest => if e.before x then e :: x :: rest else x :: insertEntry e rest

/-- Whether an entry of a drive in a direction is PROTECTIVE (05 R115). -/
def protectiveFor (r : DriveRec) (dir : Direction) : Bool :=
  match dir with
  | .closing => decide (r.demand.ceiling < r.book.position)
  | .opening => decide (r.book.position < r.demand.floor)

/-- Whether the start arbiter may grant the head (05 R118). One grant at most is made at each event. -/
def State.canGrant (s : State) : Bool :=
  !s.arbiter.queue.isEmpty && decide (s.arbiter.holders.length < s.comp.slotLimit)
    && s.arbiter.spacing.isNone && s.arbiter.restart.isNone && !s.granted

/-- The head is granted: its entry leaves the queue, the drive joins the slot holders, the spacing timer starts, and
the drive controller takes the grant in the same event (05 R118, R122). -/
def State.grantHead (s : State) : State :=
  match s.arbiter.queue with
  | [] => s
  | e :: rest =>
    let n := s.comp.startSpacing
    let s1 := s.withArbiter { s.arbiter with queue := rest, holders := s.arbiter.holders ++ [e.drive],
                                             spacing := if n = 0 then none else some n }
    State.onGrant { s1 with granted := true } e.drive

/-- The head is granted if the conditions of 05 R118 hold. An event at the arbiter asks this; with start_spacing 0 the
next grant is otherwise an event of its own, GRANT (05 R118, R122). -/
def State.grantIfAble (s : State) : State := if s.canGrant then s.grantHead else s

/-- The grant that an event at the arbiter may bring, where that event has happened. -/
def State.grantIf (s : State) (event : Bool) : State := if event then s.grantIfAble else s

/-- Whether the arbiter may grant once a drive leaves it: the drive holds a slot, whose release is an event at the
arbiter (05 R120), or its entry is the head, and its withdrawal exposes another (05 R117; log entry 46). -/
def State.yields (s : State) (d : Drive) : Bool :=
  s.arbiter.holders.contains d || (s.arbiter.queue.head?.map Entry.drive == some d)

/-- An entry is placed for a drive (05 R114). -/
def State.place (s : State) (d : Drive) (dir : Direction) : State :=
  let a := s.arbiter
  let e : Entry := { drive := d, direction := dir, protective := protectiveFor (s.drive d) dir,
                     arrival := a.nextArrival }
  s.withArbiter { a with queue := insertEntry e a.queue, nextArrival := a.nextArrival + 1 }

/-- The entry of a drive is withdrawn (05 R117). -/
def State.withdraw (s : State) (d : Drive) : State :=
  s.withArbiter { s.arbiter with queue := s.arbiter.queue.filter (·.drive ≠ d) }

/-- An ORDINARY entry of a drive that now meets 05 R115 is raised to PROTECTIVE, keeping its arrival, and a grant may
follow (05 R116). Without such an entry nothing happens at the arbiter. -/
def State.raise (s : State) (d : Drive) : State :=
  let a := s.arbiter
  match a.queue.find? (fun e => decide (e.drive = d) && !e.protective && protectiveFor (s.drive d) e.direction) with
  | none => s
  | some e =>
    (s.withArbiter { a with
      queue := insertEntry { e with protective := true } (a.queue.filter (·.drive ≠ d)) }).grantIfAble

end Sys2Proof.Machine
end

