-- ==== Sys2Proof/Machine/Controller.lean ====
section
/-! DEFINITION. The drive controller (chapter 4): what it does with a decision, a new target, a lockout, a HOME, a switch
change and an encoder pulse. -/

namespace Sys2Proof.Machine

/-! ### Decisions -/

/-- The decision of a STOPPED drive (04 R84 to R87). A VENT or SCREEN queues; a VALVE starts a train unless the restart
hold runs. -/
def State.decideMotion (s : State) (d : Drive) : State :=
  if (s.drive d).motion.state = .stopped ∧ s.seeksMotion d = true then
    if (s.setup d).kind = .valve then
      if s.arbiter.restart.isSome then s else s.startTrain d
    else
      let c := s.choice d
      let s1 := s.setDirection d c.direction
      let s2 := s1.withMotion d { (s1.drive d).motion with purpose := c.purpose }
      ((s2.setMotionState d .queued).place d c.direction).grantIfAble
  else s

/-- The decision of a QUEUED drive, made again (04 R88): the entry is withdrawn, kept (and perhaps raised, 05 R116), or
withdrawn and placed anew in the other direction. -/
def State.reevaluate (s : State) (d : Drive) : State :=
  let c := s.choice d
  if s.seeksMotion d = false then
    let s1 := s.withdraw d
    ((s1.withMotion d { (s1.drive d).motion with purpose := .move }).setMotionState d .stopped).grantIf (s.yields d)
  else if c.direction = (s.drive d).motion.direction then
    (s.withMotion d { (s.drive d).motion with purpose := c.purpose }).raise d
  else
    let s1 := (s.withdraw d).grantIf (s.yields d)
    let s2 := s1.setDirection d c.direction
    ((s2.withMotion d { (s2.drive d).motion with purpose := c.purpose }).place d c.direction).grantIfAble

/-- The position book or the marker of a drive has changed: a STOPPED drive makes its decision (04 R86), a QUEUED one
makes it again (04 R88). -/
def State.bookChanged (s : State) (d : Drive) : State :=
  match (s.drive d).motion.state with
  | .stopped => s.decideMotion d
  | .queued => s.reevaluate d
  | .running | .pausing | .retryWait | .faulted | .locked | .absent => s

/-! ### Runs and trains that change -/

/-- Whether `a` lies beyond `p` in a direction. -/
def beyond (dir : Direction) (p a : Nat) : Bool :=
  match dir with
  | .opening => decide (p < a)
  | .closing => decide (a < p)

/-- A drive reverses (04 R91 case 5, R100): the output drops early and the reversal pause begins. -/
def State.reverse (s : State) (d : Drive) (pause : Nat) : State :=
  let s1 := s.dropOutput d
  let m := (s1.drive d).motion
  ((s1.withMotion d { m with purpose := .move, pause := some { kind := .reversal, left := pause } }).setMotionState d
    .pausing).grantIf (s.yields d)

/-- The length of the reversal pause of a VALVE from now (04 R95): it ends at the later of pulse_off and
reversal_pause after the output last dropped. -/
def reversalLeft (u : Setup) (m : Motion) (t : Train) : Nat :=
  let since := match m.pause with
    | some q => t.pulseOff - q.left
    | none => 0
  max t.pulseOff u.reversalPause - since

/-- A drive stops within deadband of a new target (04 R91 case 3, R100): a normal stop at the present position. -/
def State.stopHere (s : State) (d : Drive) : State := ((s.dropOutput d).normalStop d).grantIf (s.yields d)

/-- A running VENT or SCREEN is re-planned toward a new aim in its direction (01 R10, 04 R91). -/
def State.replan (s : State) (d : Drive) (a : Nat) : State :=
  let r := s.drive d
  let u := s.setup d
  match r.motion.run with
  | some (.vent p) =>
    let p1 := ventPlan u r.motion.direction (r.livePosition u) a p.lagLeft
    s.withMotion d { r.motion with run := some (.vent p1) }
  | some (.screen p) =>
    let tally := if (endAt a).isSome ∧ (endAt p.aim).isNone then 0 else p.tally
    s.withMotion d { r.motion with run := some (.screen { screenPlan u a with tally := tally }) }
  | none => s

/-- The aim of a run in hand. -/
def Run.aim : Run → Nat
  | .vent p => p.aim
  | .screen p => p.aim

/-- A new effective target reaches a RUNNING VENT or SCREEN whose purpose is MOVE (04 R91), the first case that
holds. -/
def State.retargetRun (s : State) (d : Drive) (run : Run) : State :=
  let r := s.drive d
  let u := s.setup d
  let dir := r.motion.direction
  let p := r.livePosition u
  let a := (s.choice d).aim
  if a = run.aim then s
  else if endAt a = some (endOf dir) then s.replan d a
  else if endAt a = none ∧ (dist a p ≤ u.deadband ∨ (u.kind = .screen ∧ r.book.count = u.countOf a)) then s.stopHere d
  else if beyond dir p a then s.replan d a
  else s.reverse d u.reversalPause

/-- A new effective target reaches a VALVE in a train whose purpose is MOVE (04 R99, R100). -/
def State.retargetTrain (s : State) (d : Drive) (t : Train) : State :=
  let r := s.drive d
  let u := s.setup d
  let dir := r.motion.direction
  let p := r.livePosition u
  let a := (s.choice d).aim
  if a = t.aim then s
  else if endAt a = some (endOf dir) ∨ (endAt a = none ∧ beyond dir p a = true ∧ u.deadband < dist a p) then
    let t1 := { t with aim := a, owed := u.driveTime dir t.start a }
    let t2 := if r.motion.state = .running then { t1 with length := t1.pulseLength t.pulseOn u.startLag } else t1
    s.withMotion d { r.motion with train := some t2 }
  else if endAt a = none ∧ dist a p ≤ u.deadband then s.stopHere d
  else s.reverse d (reversalLeft u r.motion t)

/-- A new effective target is handed to the drive controller (04 R86, R88, R91, R96, R99 to R101, R106). -/
def State.onTarget (s : State) (d : Drive) : State :=
  let m := (s.drive d).motion
  match m.state with
  | .stopped => s.decideMotion d
  | .queued => s.reevaluate d
  | .running | .pausing =>
    if m.purpose = .home then s
    else match m.run, m.train with
      | some run, _ => s.retargetRun d run
      | none, some t => s.retargetTrain d t
      | none, none => s
  | .retryWait | .faulted | .locked | .absent => s

/-! ### Lockout (04 section 4.9) -/

/-- LOCKOUT has come to govern (04 R103). The home request marker is cleared in every state. -/
def State.onLockBegin (s : State) (d : Drive) : State :=
  let s0 := s.withMotion d { (s.drive d).motion with homeMarker := false }
  match (s.drive d).motion.state with
  | .stopped => s0.setMotionState d .locked
  | .queued =>
    let s1 := s0.withdraw d
    ((s1.withMotion d { (s1.drive d).motion with purpose := .move }).setMotionState d .locked).grantIf (s.yields d)
  | .running | .pausing =>
    let s1 := s0.dropOutput d
    ((s1.withMotion d { (s1.drive d).motion with purpose := .move, pause := none }).setMotionState d .locked).grantIf
      (s.yields d)
  | .retryWait =>
    (s0.withMotion d { (s0.drive d).motion with retryLeft := none }).setMotionState d .locked
  | .faulted | .absent | .locked => s0

/-- LOCKOUT has ceased to govern (04 R104). -/
def State.onLockEnd (s : State) (d : Drive) : State :=
  if (s.drive d).motion.state = .locked then (s.setMotionState d .stopped).decideMotion d else s

/-- A drive has entered STOPPED with its target known: under lockout it becomes LOCKED, otherwise it makes the
decision of 04 R86 (04 R106, R111, R112; 06 R138). -/
def State.settleStopped (s : State) (d : Drive) : State :=
  if (s.drive d).demand.lockout then s.onLockBegin d else s.decideMotion d

/-! ### Homing (04 section 4.8) -/

/-- A run toward 0 becomes a homing run from the present position, with its output kept on (04 R102). -/
def State.convertRun (s : State) (d : Drive) (run : Run) : State :=
  let r := s.drive d
  let u := s.setup d
  let run1 := match run with
    | .vent p => Run.vent (ventHomePlan u (r.livePosition u) p.lagLeft)
    | .screen _ => Run.screen (screenPlan u 0)
  s.withMotion d { r.motion with purpose := .home, run := some run1 }

/-- A train toward 0 becomes a homing train (04 R102). -/
def State.convertTrain (s : State) (d : Drive) (t : Train) : State :=
  let r := s.drive d
  let u := s.setup d
  let t1 := { t with aim := 0, owed := t.done + u.homeTime }
  let t2 := if r.motion.state = .running then { t1 with length := t1.pulseLength t.pulseOn u.startLag } else t1
  s.withMotion d { r.motion with purpose := .home, train := some t2 }

/-- A HOME request or a HOME sweep step reaches the drive controller (04 R102). -/
def State.homeDrive (s : State) (d : Drive) : State :=
  let s1 := s.withMotion d { (s.drive d).motion with homeMarker := true }
  let m := (s1.drive d).motion
  match m.state with
  | .stopped => s1.decideMotion d
  | .queued => s1.reevaluate d
  | .running | .pausing =>
    if m.purpose = .home then s1
    else match m.run, m.train, m.direction with
      | some run, _, .closing => s1.convertRun d run
      | some _, _, .opening => s1.reverse d (s1.setup d).reversalPause
      | none, some t, .closing => s1.convertTrain d t
      | none, some t, .opening => s1.reverse d (reversalLeft (s1.setup d) m t)
      | none, none, _ => s1
  | .retryWait | .faulted | .locked | .absent => s1

/-! ### End switches (01 R17 to R20, 04 R93, 06 R135, R136) -/

/-- Whether the drive controller takes a drive's inputs at all (01 R1): not for UNUSED, not in ABSENT. -/
def State.takesInputs (s : State) (d : Drive) : Bool :=
  (s.setup d).kind != .unused && (s.drive d).motion.state != .absent

/-- A switch as last taken. -/
def Pins.taken (p : Pins) : End → Bool
  | .closed => p.closedTaken
  | .opened => p.openTaken

/-- A switch level at the pin. -/
def Pins.level (p : Pins) : End → Bool
  | .closed => p.closedPin
  | .opened => p.openPin

/-- The inputs with another level of a switch at the pin. -/
def Pins.withLevel (p : Pins) (e : End) (b : Bool) : Pins :=
  match e with
  | .closed => { p with closedPin := b }
  | .opened => { p with openPin := b }

/-- The inputs with another level of a switch as taken. -/
def Pins.withTaken (p : Pins) (e : End) (b : Bool) : Pins :=
  match e with
  | .closed => { p with closedTaken := b }
  | .opened => { p with openTaken := b }

/-- Whether a fitted switch is active for the drive controller (01 R1). -/
def State.switchOn (s : State) (d : Drive) (e : End) : Bool :=
  s.takesInputs d && (s.setup d).fitted e && (s.drive d).pins.taken e

/-- Whether both switches of a drive are active. -/
def State.bothOn (s : State) (d : Drive) : Bool := s.switchOn d .closed && s.switchOn d .opened

/-- Both switches of a drive are active: BOTH_ENDS (01 R19, 06 R136). The drive becomes FAULTED, or takes BOTH_ENDS as
its cause if it is FAULTED (06 R134). -/
def State.bothEnds (s : State) (d : Drive) : State :=
  let before := (s.drive d).active
  let s1 := match (s.drive d).motion.state with
    | .running | .pausing => s.dropOutput d
    | .queued => s.withdraw d
    | .locked => s.withMotion d { (s.drive d).motion with homeMarker := false }
    | .stopped | .retryWait | .faulted | .absent => s
  let s2 := s1.setKnowledge d .unknown
  let s3 := s2.withMotion d { (s2.drive d).motion with purpose := .move }
  let s4 := s3.withFaults d { (s3.drive d).faults with bothHeld := true }
  let s5 := s4.becomeFaulted d .bothEnds
  let s6 := if (s5.drive d).active = before then s5 else s5.markDrive d
  s6.grantIf (s.yields d)

/-- The switch of the other end during a run: WRONG_END (01 R18, 06 R135). -/
def State.wrongEnd (s : State) (d : Drive) : State :=
  let s1 := (s.dropOutput d).setKnowledge d .unknown
  let s2 := s1.withMotion d { (s1.drive d).motion with purpose := .move }
  (s2.becomeFaulted d .wrongEnd).grantIf (s.yields d)

/-- A switch references its drive during a run toward it, or ends a train in its pause (01 R17): a normal stop. -/
def State.stopAtSwitch (s : State) (d : Drive) (e : End) : State :=
  let s1 := (s.clearRun d).reference d e
  let s2 := if e = .closed then s1.completeHoming d else s1
  (s2.normalStop d).grantIf (s.yields d)

/-- A switch references its drive at rest, queued, in a pause or in a retry wait (01 R17). At rest or queued, the
closed switch also clears the home request marker (04 R101). -/
def State.referenceAtRest (s : State) (d : Drive) (e : End) : State :=
  let s1 := s.reference d e
  let m := (s1.drive d).motion
  let s2 := match m.state with
    | .stopped | .queued | .faulted | .locked =>
      if e = End.closed then s1.withMotion d { m with homeMarker := false } else s1
    | .running | .pausing | .retryWait | .absent => s1
  s2.bookChanged d

/-- A fitted switch has become active, as taken (01 R17 to R19). -/
def State.switchTurnedOn (s : State) (d : Drive) (e : End) : State :=
  let m := (s.drive d).motion
  if s.switchOn d (otherEnd e) then s.bothEnds d
  else if m.state = .running then
    if endOf m.direction = e then s.stopAtSwitch d e else s.wrongEnd d
  else if m.train.isSome then s.stopAtSwitch d e
  else s.referenceAtRest d e

/-- A fitted switch has become inactive, as taken (01 R20, 06 R140). -/
def State.switchTurnedOff (s : State) (d : Drive) (e : End) : State :=
  let s1 := if (s.drive d).faults.bothHeld then s.endBothHeld d else s
  let r := s1.drive d
  if r.motion.state ≠ .running ∧ r.motion.coast = none ∧ r.book.position = endPosition e ∧
      r.book.knowledge = .referenced then
    (s1.setKnowledge d .estimated).bookChanged d
  else s1

/-- The drive controller takes a switch level (01 R1): a change of a fitted switch acts, and any other does not. -/
def State.takeSwitch (s : State) (d : Drive) (e : End) (b : Bool) : State :=
  let p := (s.drive d).pins
  let s1 := s.withPins d (p.withTaken e b)
  if p.taken e = b then s
  else if s.takesInputs d && (s.setup d).fitted e then
    if b then s1.switchTurnedOn d e else s1.switchTurnedOff d e
  else s1

/-! ### Trip contacts (06 R128) -/

/-- A trip contact that has become active is a trip of a RUNNING drive, and has no effect in any other motion state
(06 R128). -/
def State.takeTrip (s : State) (d : Drive) : State :=
  if s.takesInputs d = true ∧ (s.drive d).motion.state = .running then (s.tripped d .trip).grantIf (s.yields d)
  else s

/-- The drive controller takes the level of its trip contact: one that has become active acts, and one that has become
inactive has no further effect (06 R128). -/
def State.takeTripLevel (s : State) (d : Drive) : State :=
  let p := (s.drive d).pins
  if p.tripOpen = p.tripPin then s
  else
    let s1 := s.withPins d { p with tripOpen := p.tripPin }
    if p.tripPin then s1.takeTrip d else s1

/-! ### Progress (04 R109) -/

/-- The progress point newly reached by a run at a reported position (04 R109): the furthest whole multiple of
notice_interval that lies strictly beyond the run's start and beyond the last point reached. -/
def nextProgress (u : Setup) (m : Motion) (position : Nat) : Option Nat :=
  let n := u.noticeInterval
  if n = 0 then none
  else match m.direction with
    | .opening =>
      let k := position / n * n
      if m.travelBase < k ∧ m.lastProgress.all (fun l => decide (l < k)) = true then some k else none
    | .closing =>
      let k := ceilDiv position n * n
      if k < m.travelBase ∧ m.lastProgress.all (fun l => decide (k < l)) = true then some k else none

/-- A run reaches its newly reached progress point, if there is one: DRIVE_STATE becomes due (04 R109). -/
def State.reachProgress (s : State) (d : Drive) : State :=
  let m := (s.drive d).motion
  match nextProgress (s.setup d) m (s.livePosition d) with
  | some k => (s.withMotion d { m with lastProgress := some k }).markDrive d
  | none => s

/-! ### Encoder pulses (01 R13 to R16) -/

/-- A count changed by one in a direction, clamped to 0 to pulses_per_stroke (01 R13). -/
def countStep (u : Setup) (dir : Direction) (count : Nat) : Nat :=
  match dir with
  | .opening => min u.pps (count + 1)
  | .closing => count - 1

/-- The position book after a pulse in a direction (01 R13). A pulse that finds the count at its end and leaves it there
sets the position from the count too (log entry 38). -/
def Book.pulsed (b : Book) (u : Setup) (dir : Direction) : Book :=
  let n := countStep u dir b.count
  { b with count := n, position := u.positionOf n }

/-- Whether a count stands at the end in a direction (01 R16). -/
def countAtEnd (u : Setup) (dir : Direction) (count : Nat) : Bool :=
  match dir with
  | .opening => decide (u.pps ≤ count)
  | .closing => count == 0

/-- The overrun tally after a pulse of a run that found the count at `count` (01 R16): a homing run counts every
pulse; another end run counts those that arrive while the count stands at its end. -/
def tallyAfter (u : Setup) (m : Motion) (p : ScreenPlan) (count : Nat) : Nat :=
  if m.purpose = .home then p.tally + 1
  else if (endAt p.aim).isSome && countAtEnd u m.direction count then p.tally + 1
  else p.tally

/-- Whether a run of a SCREEN is complete after a pulse (01 R13, R16, R24). -/
def screenComplete (u : Setup) (m : Motion) (p : ScreenPlan) (count : Nat) : Bool :=
  if m.purpose = .home then decide (u.pps + u.overrunPulses ≤ p.tally)
  else if (endAt p.aim).isSome then countAtEnd u m.direction count && decide (u.overrunPulses ≤ p.tally)
  else match m.direction with
    | .opening => decide (p.targetCount ≤ count)
    | .closing => decide (count ≤ p.targetCount)

/-- An encoder pulse of a run of a SCREEN (01 R13, R16; 06 R129; 04 R109). -/
def State.runPulse (s : State) (d : Drive) (p : ScreenPlan) : State :=
  let r := s.drive d
  let u := s.setup d
  let p1 := { p with tally := tallyAfter u r.motion p r.book.count }
  let s1 := s.setBook d (r.book.pulsed u r.motion.direction)
  let s2 := s1.withMotion d { (s1.drive d).motion with run := some (.screen p1), pulseGap := some u.stallGap }
  let s3 := s2.reachProgress d
  if screenComplete u r.motion p1 (s3.drive d).book.count then (s3.completeRun d p1.aim).grantIf (s3.yields d)
  else s3

/-- An encoder pulse within a coast window (01 R14). -/
def State.coastPulse (s : State) (d : Drive) (c : Coast) : State :=
  let b := (s.drive d).book
  let b1 := b.pulsed (s.setup d) c.direction
  if b1 = b then s else (s.setBook d b1).bookChanged d

/-- A stray encoder pulse (01 R15). -/
def State.strayPulse (s : State) (d : Drive) : State :=
  if (s.drive d).book.knowledge = .referenced then (s.setKnowledge d .estimated).bookChanged d else s

end Sys2Proof.Machine
end

