-- ==== Sys2Proof/Machine/Demand.lean ====
section
/-! DEFINITION. The demand table (chapter 2): the stack, the bounds, the resolution of the effective target and what it hands
on. -/

namespace Sys2Proof.Machine

/-- The governing source: the source of the highest entry present (02 R44). -/
def Demand.governingNow (m : Demand) : Source :=
  if m.lockout then .lockout
  else if m.panel.isSome then .panel
  else if m.climate.isSome then .climate
  else .fallback

/-- The ceiling: the envelope ceiling, or the lesser of it and the heat cap (02 R46). -/
def Demand.ceilingNow (m : Demand) : Nat :=
  match m.cap with
  | some c => min m.envCeiling c.value
  | none => m.envCeiling

/-- The governing value (02 R44, R45): under HOLD the effective target held before the resolution. LOCKOUT has none,
and its target is set apart. -/
def Demand.valueNow (m : Demand) (fallback : Option Nat) : Nat :=
  match m.governingNow with
  | .lockout => m.target
  | .panel => (m.panel.map Held.value).getD m.target
  | .climate => (m.climate.map Held.value).getD m.target
  | .fallback => fallback.getD m.target

/-- The table's part of a resolution (02 R44 to R48) for a drive that stands at `position`. -/
def Demand.resolved (m : Demand) (fallback : Option Nat) (position : Nat) : Demand :=
  let lo := m.envFloor
  let hi := m.ceilingNow
  { m with floor := lo, ceiling := hi, governing := m.governingNow, conflict := decide (hi < lo),
           target := if m.governingNow = .lockout then position
             else if hi < lo then lo
             else clampNat lo hi (m.valueNow fallback) }

/-- A resolution that changes the governing source from PANEL or CLIMATE, whose entry is still present, to a higher
one displaces it (02 R51). -/
def Demand.displaces (old new : Demand) : Option Source :=
  match old.governing, new.governing with
  | .climate, .panel => if new.climate.isSome then some .climate else none
  | .climate, .lockout => if new.climate.isSome then some .climate else none
  | .panel, .lockout => if new.panel.isSome then some .panel else none
  | _, _ => none

/-- The displacement record of a displaced source names the new governing source (02 R51). -/
def Demand.recordDisplaced (m : Demand) : Source → Demand
  | .climate => { m with displacedClimate := some m.governing }
  | .panel => { m with displacedPanel := some m.governing }
  | _ => m

/-- The port of a displaced source (02 R51). -/
def sourcePort : Source → Port
  | .climate => .climate
  | _ => .panel

/-- A displacement is written into its record and DISPLACED is marked pending (02 R51). -/
def State.displace (s : State) (d : Drive) (src : Option Source) : State :=
  match src with
  | some x => (s.withDemand d ((s.drive d).demand.recordDisplaced x)).mark (sourcePort x) (.displaced d)
  | none => s

/-- What a resolution hands to the drive controller (02 R50): the beginning or the end of a lockout, or a new
effective target. While LOCKOUT goes on governing, a new target calls for nothing (04 R103). -/
def State.handOn (s : State) (d : Drive) (old new : Demand) : State :=
  if new.governing = .lockout ∧ old.governing ≠ .lockout then s.onLockBegin d
  else if new.governing ≠ .lockout ∧ old.governing = .lockout then s.onLockEnd d
  else if new.target ≠ old.target ∧ new.governing ≠ .lockout then s.onTarget d
  else s

/-- A resolution of one drive (02 R44 to R51): the table takes its new values, a displacement is recorded, DRIVE_STATE
becomes due for a change of target, governing source or marker, the drive controller acts, and a waiting entry may be
raised (05 R116). -/
def State.resolve (s : State) (d : Drive) : State :=
  let old := (s.drive d).demand
  let new := old.resolved (s.setup d).fallback (s.livePosition d)
  let s1 := (s.withDemand d new).displace d (old.displaces new)
  let s2 := if new.target = old.target ∧ new.governing = old.governing ∧ new.conflict = old.conflict then s1
    else s1.markDrive d
  (s2.handOn d old new).raise d

/-- A source's entry is placed or written, and the drive is resolved (02 R30, R31, R33, R36). HEAT places no demand. -/
def State.placeDemand (s : State) (d : Drive) (src : TimedSource) (v : Held) : State :=
  let m := (s.drive d).demand
  match src with
  | .panel => (s.withDemand d { m with panel := some v }).resolve d
  | .climate => (s.withDemand d { m with climate := some v }).resolve d

/-- The entry of a timed source. -/
def Demand.entry (m : Demand) : TimedSource → Option Held
  | .panel => m.panel
  | .climate => m.climate

/-- A source's entry is removed and the drive is resolved; without an entry nothing changes (02 R32, R38). -/
def State.removeDemand (s : State) (d : Drive) (src : TimedSource) : State :=
  let m := (s.drive d).demand
  if (m.entry src).isNone then s
  else match src with
    | .panel => (s.withDemand d { m with panel := none }).resolve d
    | .climate => (s.withDemand d { m with climate := none }).resolve d

/-- A heat cap is placed or written, and the drive is resolved (02 R41). -/
def State.placeCap (s : State) (d : Drive) (v : Held) : State :=
  (s.withDemand d { (s.drive d).demand with cap := some v }).resolve d

/-- A heat cap is removed and the drive is resolved; without a cap nothing changes (02 R42, R43). -/
def State.removeCap (s : State) (d : Drive) : State :=
  let m := (s.drive d).demand
  if m.cap.isNone then s else (s.withDemand d { m with cap := none }).resolve d

/-- A pair of envelope bounds is taken and the drive is resolved (02 R46). -/
def State.takeBounds (s : State) (d : Drive) (lo hi : Nat) : State :=
  (s.withDemand d { (s.drive d).demand with envFloor := lo, envCeiling := hi }).resolve d

/-- The source a port places demands as (02 section 2.1); HEAT places none. -/
def portSource : Port → Option TimedSource
  | .climate => some .climate
  | .heat => none
  | .panel => some .panel

/-- The lifetime in tenths of a demand placed without one: climate_lifetime, or 60 minutes for PANEL (02 R30, R31). -/
def State.plainLifetime (s : State) : TimedSource → Nat
  | .climate => s.comp.climateLifetime
  | .panel => 60 * 600

/-- A SET sweep's step at the demand table: a SET_DEMAND of the owner that gives no lifetime (02 R36). -/
def State.stepDemand (s : State) (d : Drive) (owner : Port) (value : Nat) : State :=
  match portSource owner with
  | some src => s.placeDemand d src { value := clampNat 0 1000 value, left := s.plainLifetime src }
  | none => s

/-- A RELEASE sweep's step at the demand table (02 R36). -/
def State.stepRelease (s : State) (d : Drive) (owner : Port) : State :=
  match portSource owner with
  | some src => s.removeDemand d src
  | none => s

/-- The lockout set of the demand table, in ascending drive number (10 R201). -/
def State.lockoutSet (s : State) : List Drive := allDrives.filter (fun d => (s.drive d).demand.lockout)

/-- The members of a group as they stand (07 R147, R148); group 0 is every drive whose kind is not UNUSED. -/
def State.groupMembers (s : State) (g : Nat) : List Drive :=
  if g = 0 then allDrives.filter (fun d => (s.setup d).kind != .unused)
  else (s.settings.groups[g - 1]?.getD {}).members

end Sys2Proof.Machine
end

