-- ==== Sys2Proof/Machine/Envelope.lean ====
section
/-! DEFINITION. The envelope unit (chapter 3): observations, side ceilings, held ceilings, the frost floor, the bounds of each
drive and their pushes. -/

namespace Sys2Proof.Machine

/-- The effective wind (03 R59). -/
def effectiveWind (mean gust : Nat) : Nat := max mean (gust * 3 / 4)

/-- A side's computed ceiling at an effective wind (03 R60). -/
def sideCeiling (lo hi w : Nat) : Nat :=
  if w ≤ lo then 1000 else if hi ≤ w then 0 else 1000 * (hi - w) / (hi - lo)

/-- The low threshold of a side. -/
def Compartment.lo (c : Compartment) : Side → Nat
  | .windward => c.windwardLo
  | .leeward => c.leewardLo

/-- The high threshold of a side. -/
def Compartment.hi (c : Compartment) : Side → Nat
  | .windward => c.windwardHi
  | .leeward => c.leewardHi

/-- The frost floor of a temperature (03 R68); an absent temperature counts as frost_full or less. -/
def frostFloorAt (c : Compartment) : Option Int → Nat
  | none => c.frostMaxFloor
  | some t =>
    if c.frostStart ≤ t then 0
    else if t ≤ c.frostFull then c.frostMaxFloor
    else ceilDiv (c.frostMaxFloor * (c.frostStart - t).toNat) (c.frostStart - c.frostFull).toNat

/-- The temperature the frost floor is computed from: absent while STALE or without an observation (03 R68). -/
def Envelope.frostTemp (e : Envelope) : Option Int :=
  match e.weather, e.observation with
  | .current, some o => o.temp
  | _, _ => none

/-- The frost floor computed again (03 R68). -/
def Envelope.refrost (e : Envelope) (c : Compartment) : Envelope :=
  { e with frostFloor := frostFloorAt c e.frostTemp }

/-- A side's ceiling computed from an effective wind, and the held ceiling and release timer treated (03 R60, R62,
R63). -/
def Envelope.recompute (e : Envelope) (c : Compartment) (w : Nat) (x : Side) : Envelope :=
  let new := sideCeiling (c.lo x) (c.hi x) w
  let held := e.held.get x
  let e1 := { e with computed := e.computed.set x (some new) }
  if new < held then
    { e1 with held := e.held.set x new, release := e.release.set x (some c.releaseDelay) }
  else if e.release.get x = none ∧ held < new then
    { e1 with release := e.release.set x (some c.releaseDelay) }
  else e1

/-- A received observation with its fields taken as 03 R58 gives. -/
def takenObservation (o : WireObservation) : Observation :=
  { mast := o.mast.toNat,
    mean := min 600 o.mean.toNat,
    gust := min 800 o.gust.toNat,
    direction := if o.directionOn then
        some (if 360 ≤ o.direction.toNat then o.direction.toNat % 360 else o.direction.toNat)
      else none,
    rain := o.rain,
    snow := o.snow,
    temp := if o.tempOn then some (clampInt (-400) 500 o.temp.toInt) else none }

/-- The envelope after an accepted observation (03 R58 to R63, R68, R72, R73). -/
def Envelope.accept (e : Envelope) (c : Compartment) (o : Observation) : Envelope :=
  let w := effectiveWind o.mean o.gust
  let e1 := { e with observation := some o, age := 0, weather := .current, stale := some c.staleTimeout,
                     effective := some w, rain := o.rain, snow := o.snow }
  (((e1.recompute c w .windward).recompute c w .leeward)).refrost c

/-- The side a vent stands on (03 R61). -/
def Envelope.sideOf (e : Envelope) (facing : Option Nat) : Side :=
  match facing, e.observation.bind Observation.direction with
  | some f, some d => if circularDiff d f ≤ 90 then .windward else .leeward
  | _, _ => .windward

/-- The ceiling of a vent (03 R66), each step in the order listed. -/
def Envelope.ventCeiling (e : Envelope) (c : Compartment) (facing : Option Nat) : Nat :=
  let side := e.sideOf facing
  let h := e.held.get side
  let a := if e.rain = true ∧ side = .windward then min h c.rainCeiling else h
  let b := if e.snow then 0 else a
  if e.weather = .stale then min b c.staleVentCeiling else b

/-- The floor of a valve (03 R69). -/
def Envelope.valveFloor (e : Envelope) (c : Compartment) : Nat :=
  if e.snow then max e.frostFloor c.snowValveFloor else e.frostFloor

/-- The floor and ceiling of a drive (03 R66, R67, R69); for UNUSED the demand table uses 0 and 1000 (02 R46). -/
def Envelope.bounds (e : Envelope) (c : Compartment) (u : Setup) : Nat × Nat :=
  match u.kind with
  | .vent => (0, e.ventCeiling c u.facing)
  | .screen => (0, if e.snow then 0 else 1000)
  | .valve => (e.valveFloor c, 1000)
  | .unused => (0, 1000)

/-- The pair last pushed for a drive: the last one still on its way, or the pair the demand table holds (03 R70; log
entry 4). -/
def State.lastPushed (s : State) (d : Drive) : Nat × Nat :=
  match (s.envelope.pushes.filter (·.drive = d)).getLast? with
  | some p => (p.floor, p.ceiling)
  | none => ((s.drive d).demand.envFloor, (s.drive d).demand.envCeiling)

/-- The bounds of a drive, computed from the envelope as it stands. -/
def State.boundsOf (s : State) (d : Drive) : Nat × Nat := s.envelope.bounds s.comp (s.setup d)

/-- The pair of one drive is pushed if it differs from the pair last pushed (03 R70). -/
def State.pushDrive (s : State) (d : Drive) : State :=
  let b := s.boundsOf d
  if (s.setup d).kind = .unused ∨ b = s.lastPushed d then s
  else s.withEnvelope { s.envelope with
    pushes := s.envelope.pushes ++ [{ drive := d, floor := b.1, ceiling := b.2 }] }

/-- The bounds of every drive are computed again and pushed where they differ (03 R70). -/
def State.pushAll (s : State) : State := allDrives.foldl State.pushDrive s

/-- Whether a change of the envelope unit makes ENVELOPE due (03 R71). -/
def envelopeDue (old new : Envelope) : Bool :=
  old.held != new.held || old.frostFloor != new.frostFloor || old.rain != new.rain || old.snow != new.snow
    || old.weather != new.weather

/-- The envelope unit takes new parts: bounds are pushed (03 R70) and ENVELOPE becomes due (03 R71). -/
def State.changeEnvelope (s : State) (e : Envelope) : State :=
  let s1 := (s.withEnvelope e).pushAll
  if envelopeDue s.envelope e then s1.markEnvelope else s1

/-- An observation handed to the envelope unit (03 R57, R58, R73). -/
def State.observe (s : State) (w : WireObservation) : State :=
  let o := takenObservation w
  if o.mast ≠ s.comp.mastId then s
  else
    let s1 := s.changeEnvelope (s.envelope.accept s.comp o)
    if s.envelope.weather = .stale then s1.endStale else s1

/-- The first push on its way for a drive is taken at the demand table (02 R46, 03 R70). -/
def State.takePush (s : State) (d : Drive) : State :=
  match s.envelope.pushes.find? (·.drive = d) with
  | none => s
  | some p =>
    (s.withEnvelope { s.envelope with pushes := s.envelope.pushes.erase p }).takeBounds d p.floor p.ceiling

/-- A side's release timer expires (03 R64). -/
def State.expireRelease (s : State) (x : Side) : State :=
  let e := s.envelope
  s.changeEnvelope { e with release := e.release.set x none,
                            held := e.held.set x ((e.computed.get x).getD (e.held.get x)) }

/-- The stale timer expires (03 R72): in CURRENT the weather state becomes STALE; in either state WEATHER_STALE is
reported. -/
def State.expireStale (s : State) : State :=
  let e := { s.envelope with stale := none }
  match s.envelope.weather with
  | .current => (s.changeEnvelope ({ e with weather := .stale }.refrost s.comp)).reportStale
  | .stale => (s.withEnvelope e).reportStale

/-- The envelope after an accepted write of the compartment setup (03 R76): `old` is the setup before the write. -/
def Envelope.rewrite (e : Envelope) (old new : Compartment) : Envelope :=
  let side (e : Envelope) (x : Side) : Envelope :=
    match e.effective with
    | some w => if old.lo x ≠ new.lo x ∨ old.hi x ≠ new.hi x then e.recompute new w x else e
    | none => e
  let e1 := side (side e .windward) .leeward
  if old.frostStart ≠ new.frostStart ∨ old.frostFull ≠ new.frostFull ∨ old.frostMaxFloor ≠ new.frostMaxFloor then
    e1.refrost new
  else e1

/-- The envelope unit in its reset state (03 R79, R80), from a compartment setup. -/
def Envelope.atReset (c : Compartment) : Envelope :=
  { stale := some c.staleTimeout, frostFloor := c.frostMaxFloor }

/-- One drive's bounds are taken at once, without a resolution of their own: at a reset and at a write of the drive's
setup, whose own resolution follows (02 R52, R54, R55; 03 R77, R79). Pushes on their way for the drive are dropped
(log entry 4). -/
def State.giveBounds (s : State) (d : Drive) : State :=
  let b := s.boundsOf d
  let s1 := s.withEnvelope { s.envelope with pushes := s.envelope.pushes.filter (·.drive ≠ d) }
  s1.withDemand d { (s1.drive d).demand with envFloor := b.1, envCeiling := b.2 }

end Sys2Proof.Machine
end

