-- ==== Sys2Proof/Machine/Operands.lean ====
section
/-! DEFINITION. The numbers and enumerated values of request and record payloads (08 R174, R188), the fields of the two setup
records with their numbers, ranges and defaults (01 section 1.2, R3, R4; 08 R181), and the payloads of each request
kind. -/

namespace Sys2Proof.Machine

/-! ### Numbers (08 R187, R188): high byte first -/

/-- A number sent in one byte. -/
def byte1 (n : Nat) : List Byte := [BitVec.ofNat 8 n]

/-- A number sent in two bytes. -/
def byte2 (n : Nat) : List Byte := [BitVec.ofNat 8 (n / 256), BitVec.ofNat 8 n]

/-- A signed number sent in two bytes, in two's complement. -/
def byte2s (z : Int) : List Byte := byte2 (BitVec.ofInt 16 z).toNat

/-- The number that two bytes send. -/
def num2 (hi lo : Byte) : Nat := hi.toNat * 256 + lo.toNat

/-- The signed number that two bytes send. -/
def num2s (hi lo : Byte) : Int := (BitVec.ofNat 16 (num2 hi lo)).toInt

/-- The number that four bytes send. -/
def num4 (a b c d : Byte) : Nat := num2 a b * 65536 + num2 c d

/-- A flag sent in one byte: 1 when set (08 R189). -/
def flag1 (b : Bool) : List Byte := [if b then 1 else 0]

/-- A set sent as one byte, the first member in the lowest bit (08 R188). -/
def bits : List Bool → Nat
  | [] => 0
  | b :: rest => (if b then 1 else 0) + 2 * bits rest

/-! ### Enumerated values (08 R188) -/

def Kind.code : Kind → Nat
  | .vent => 0
  | .screen => 1
  | .valve => 2
  | .unused => 3

/-- The kind a number sends, if it sends one (08 R188). -/
def Kind.ofCode : Nat → Option Kind
  | 0 => some .vent
  | 1 => some .screen
  | 2 => some .valve
  | 3 => some .unused
  | _ => none

def MotionState.code : MotionState → Nat
  | .stopped => 0
  | .queued => 1
  | .running => 2
  | .pausing => 3
  | .retryWait => 4
  | .faulted => 5
  | .locked => 6
  | .absent => 7

def Direction.code : Direction → Nat
  | .opening => 0
  | .closing => 1

def Knowledge.code : Knowledge → Nat
  | .unknown => 0
  | .estimated => 1
  | .referenced => 2

def Source.code : Source → Nat
  | .lockout => 0
  | .panel => 1
  | .climate => 2
  | .fallback => 3

def portCode : Port → Nat
  | .climate => 0
  | .heat => 1
  | .panel => 2

/-- A fault kind's value: its priority (06 R139, 08 R188). -/
def FaultKind.code : FaultKind → Nat
  | .ofDrive .bothEnds => 1
  | .ofDrive .wrongEnd => 2
  | .ofDrive .tripLimit => 3
  | .ofDrive .cardAbsent => 4
  | .ofDrive .stall => 5
  | .ofDrive .trip => 6
  | .ofDrive .endSwitchMissed => 7
  | .ofCompartment .weatherStale => 8
  | .ofCompartment .storeInvalid => 9

/-- A drive fault set: bits for BOTH_ENDS to END_SWITCH_MISSED, lowest bit first (08 R188). -/
def FaultSet.code (f : FaultSet) : Nat :=
  bits [f.bothEnds, f.wrongEnd, f.tripLimit, f.cardAbsent, f.stall, f.trip, f.endSwitchMissed]

def SweepKind.code : SweepKind → Nat
  | .set => 0
  | .release => 1
  | .home => 2
  | .scan => 3

def SweepKind.ofCode : Nat → Option SweepKind
  | 0 => some .set
  | 1 => some .release
  | 2 => some .home
  | 3 => some .scan
  | _ => none

def SweepOrder.code : SweepOrder → Nat
  | .forward => 0
  | .reverse => 1

def SweepOrder.ofCode : Nat → Option SweepOrder
  | 0 => some .forward
  | 1 => some .reverse
  | _ => none

def SweepState.code : SweepState → Nat
  | .idle => 0
  | .stepping => 1
  | .waiting => 2

def Condition.code : Condition → Nat
  | .offTarget => 0
  | .notReferenced => 1
  | .faulted => 2
  | .moving => 3

def Condition.ofCode : Nat → Option Condition
  | 0 => some .offTarget
  | 1 => some .notReferenced
  | 2 => some .faulted
  | 3 => some .moving
  | _ => none

/-- The sweep markers as a set (08 R188). -/
def Markers.code (m : Markers) : Nat := bits [m.found, m.exhausted, m.skippedSome, m.cancelled]

def Weather.code : Weather → Nat
  | .current => 0
  | .stale => 1

/-- The wait flag of START_SWEEP: 1 when set, 0 when clear; any other byte is left open (log entry 15). -/
def waitFlag (b : Byte) : Bool := if b = 0 then false else if b = 1 then true else Config.oddWaitFlag b

/-- The number of a drive, 1 to 24 (00_scope 5.2). -/
def driveNumber (d : Drive) : Nat := d.val + 1

/-- The drive a number names, if it is 1 to 24 (02 R29). -/
def driveOf (n : Nat) : Option Drive :=
  if h : 1 ≤ n ∧ n ≤ 24 then some ⟨n - 1, by omega⟩ else none

/-- The number of a context, 1 or 2. -/
def contextNumber : Context → Nat
  | .one => 1
  | .two => 2

/-- The context a number names, if it is 1 or 2 (07 R164, R166). -/
def contextOf : Nat → Option Context
  | 1 => some .one
  | 2 => some .two
  | _ => none

/-! ### The drive setup record (01 section 1.2) -/

/-- The factory defaults of a kind (01 section 1.2, R4): start_lag, notice_interval and fallback depend on it. -/
def Setup.defaults (k : Kind) : Setup :=
  { kind := k,
    startLag := if k = .valve then 0 else 10,
    noticeInterval := if k = .valve then 4 else 100,
    fallback := match k with
      | .vent => some 0
      | .screen => none
      | .valve => some 300
      | .unused => some 0 }

/-- Whether a value lies in the range of a field, for a record of kind `k`; UNUSED is checked with the ranges of VENT
(01 section 1.2, R3). Fields are numbered 1 to 18 in the order of the table (08 R174). FFFFh is an absent facing and
a fallback of HOLD; a switch is 1 when fitted and 0 when not (08 R188). -/
def Setup.fieldOk (k : Kind) (field v : Nat) : Bool :=
  match field with
  | 1 => (Kind.ofCode v).isSome
  | 2 => 50 ≤ v && v ≤ 6000
  | 3 => 50 ≤ v && v ≤ 6000
  | 4 => v ≤ 50
  | 5 => 100 ≤ v && v ≤ 60000
  | 6 => 2 ≤ v && v ≤ 100
  | 7 => v ≤ 359 || v == 65535
  | 8 => v ≤ 1
  | 9 => v ≤ 1
  | 10 => v ≤ 100
  | 11 => v ≤ 50
  | 12 => 5 ≤ v && v ≤ 300
  | 13 => 5 ≤ v && v ≤ 600
  | 14 => 5 ≤ v && v ≤ 1200
  | 15 => if k = .valve then 1 ≤ v && v ≤ 16 else v == 0 || (10 ≤ v && v ≤ 500)
  | 16 => v ≤ 1000 || v == 65535
  | 17 => 5 ≤ v && v ≤ 600
  | 18 => v ≤ 8
  | _ => false

/-- A setup record with one field set from its value as sent. -/
def Setup.setField (u : Setup) (field v : Nat) : Setup :=
  match field with
  | 1 => { u with kind := (Kind.ofCode v).getD u.kind }
  | 2 => { u with strokeOpen := v }
  | 3 => { u with strokeClose := v }
  | 4 => { u with startLag := v }
  | 5 => { u with pps := v }
  | 6 => { u with stallGap := v }
  | 7 => { u with facing := if v = 65535 then none else some v }
  | 8 => { u with closedSwitch := v == 1 }
  | 9 => { u with openSwitch := v == 1 }
  | 10 => { u with deadband := v }
  | 11 => { u with overrun := v }
  | 12 => { u with reversalPause := v }
  | 13 => { u with pulseOn := v }
  | 14 => { u with pulseOff := v }
  | 15 => { u with noticeInterval := v }
  | 16 => { u with fallback := if v = 65535 then none else some v }
  | 17 => { u with retryBase := v }
  | 18 => { u with retryLimit := v }
  | _ => u

/-- The 18 fields in field order, as READ_DRIVE_SETUP sends them (08 R174, R188). -/
def Setup.fields (u : Setup) : List Nat :=
  [u.kind.code, u.strokeOpen, u.strokeClose, u.startLag, u.pps, u.stallGap, u.facing.getD 65535,
   if u.closedSwitch then 1 else 0, if u.openSwitch then 1 else 0, u.deadband, u.overrun, u.reversalPause,
   u.pulseOn, u.pulseOff, u.noticeInterval, u.fallback.getD 65535, u.retryBase, u.retryLimit]

/-- The kind a record will have after a write: the named kind if the write names one, otherwise the present kind
(01 R3). -/
def kindAfter (u : Setup) (items : List (Nat × Nat)) : Kind :=
  match items.find? (fun i => i.1 == 1) with
  | some i => (Kind.ofCode i.2).getD u.kind
  | none => u.kind

/-- The record after a write: a field not named keeps its value, unless the write changes the kind, when it takes its
default for the new kind (01 R3, R4). -/
def Setup.after (u : Setup) (items : List (Nat × Nat)) : Setup :=
  let k := kindAfter u items
  let base := if k = u.kind then u else Setup.defaults k
  items.foldl (fun u i => u.setField i.1 i.2) base

/-- The checks of 01 R3: every named field in range for the kind after the write, and for a VALVE pulse_on greater
than start_lag as they will stand. -/
def Setup.writeOk (u : Setup) (items : List (Nat × Nat)) : Bool :=
  let k := kindAfter u items
  let v := u.after items
  items.all (fun i => Setup.fieldOk k i.1 i.2) && (k != .valve || decide (v.startLag < v.pulseOn))

/-! ### The compartment setup record (08 R181) -/

/-- Whether a field is sent signed: frost_start and frost_full (08 R181). -/
def Compartment.signed (field : Nat) : Bool := field == 10 || field == 11

/-- Whether a value lies in a field's range (08 R181). -/
def Compartment.fieldOk (field : Nat) (v : Int) : Bool :=
  match field with
  | 1 => 1 ≤ v && v ≤ 8
  | 2 => 0 ≤ v && v ≤ 50
  | 3 => 300 ≤ v && v ≤ 36000
  | 4 => 0 ≤ v && v ≤ 600
  | 5 => 0 ≤ v && v ≤ 600
  | 6 => 0 ≤ v && v ≤ 600
  | 7 => 0 ≤ v && v ≤ 600
  | 8 => 0 ≤ v && v ≤ 1000
  | 9 => 0 ≤ v && v ≤ 1000
  | 10 => -400 ≤ v && v ≤ 500
  | 11 => -400 ≤ v && v ≤ 500
  | 12 => 0 ≤ v && v ≤ 1000
  | 13 => 100 ≤ v && v ≤ 18000
  | 14 => 100 ≤ v && v ≤ 6000
  | 15 => 0 ≤ v && v ≤ 1000
  | 16 => 1 ≤ v && v ≤ 254
  | 17 => 1 ≤ v && v ≤ 200
  | 18 => 0 ≤ v && v ≤ 6000
  | 19 => 1000 ≤ v && v ≤ 50000
  | 20 => 0 ≤ v && v ≤ 100
  | _ => false

/-- A compartment setup with one field set. -/
def Compartment.setField (c : Compartment) (field : Nat) (v : Int) : Compartment :=
  match field with
  | 1 => { c with slotLimit := v.toNat }
  | 2 => { c with startSpacing := v.toNat }
  | 3 => { c with climateLifetime := v.toNat }
  | 4 => { c with windwardLo := v.toNat }
  | 5 => { c with windwardHi := v.toNat }
  | 6 => { c with leewardLo := v.toNat }
  | 7 => { c with leewardHi := v.toNat }
  | 8 => { c with rainCeiling := v.toNat }
  | 9 => { c with snowValveFloor := v.toNat }
  | 10 => { c with frostStart := v }
  | 11 => { c with frostFull := v }
  | 12 => { c with frostMaxFloor := v.toNat }
  | 13 => { c with releaseDelay := v.toNat }
  | 14 => { c with staleTimeout := v.toNat }
  | 15 => { c with staleVentCeiling := v.toNat }
  | 16 => { c with mastId := v.toNat }
  | 17 => { c with jogStep := v.toNat }
  | 18 => { c with restartHold := v.toNat }
  | 19 => { c with rereferenceDistance := v.toNat }
  | 20 => { c with endSnapBand := v.toNat }
  | _ => c

/-- The 20 fields in field order, as READ_COMPARTMENT_SETUP sends them (08 R174). -/
def Compartment.fields (c : Compartment) : List Int :=
  [c.slotLimit, c.startSpacing, c.climateLifetime, c.windwardLo, c.windwardHi, c.leewardLo, c.leewardHi,
   c.rainCeiling, c.snowValveFloor, c.frostStart, c.frostFull, c.frostMaxFloor, c.releaseDelay, c.staleTimeout,
   c.staleVentCeiling, c.mastId, c.jogStep, c.restartHold, c.rereferenceDistance, c.endSnapBand]

/-- The record after a write of the named fields, all together (08 R181). -/
def Compartment.after (c : Compartment) (items : List (Nat × Int)) : Compartment :=
  items.foldl (fun c i => c.setField i.1 i.2) c

/-- Each named field in range, and the three checks across fields with the values as they will stand (03 R75,
08 R181). -/
def Compartment.writeOk (c : Compartment) (items : List (Nat × Int)) : Bool :=
  let v := c.after items
  items.all (fun i => Compartment.fieldOk i.1 i.2) && decide (v.windwardLo < v.windwardHi)
    && decide (v.leewardLo < v.leewardHi) && decide (v.frostFull < v.frostStart)

/-! ### Payloads of requests (08 R174, R175 step 2)

Each reader answers `none` for a payload that does not fit its kind. -/

/-- SET_DEMAND: drive, value, and the lifetime in minutes if the payload gives one. -/
def readSetDemand : List Byte → Option (Nat × Nat × Option Nat)
  | [d, v1, v0] => some (d.toNat, num2 v1 v0, none)
  | [d, v1, v0, l1, l0] => some (d.toNat, num2 v1 v0, some (num2 l1 l0))
  | _ => none

/-- A payload of one number of one byte: a drive, a group or a context. -/
def readOne : List Byte → Option Nat
  | [n] => some n.toNat
  | _ => none

/-- A payload of two numbers of one byte. -/
def readTwo : List Byte → Option (Nat × Nat)
  | [a, b] => some (a.toNat, b.toNat)
  | _ => none

/-- A payload of no bytes. -/
def readNone : List Byte → Option Unit
  | [] => some ()
  | _ => none

/-- SET_CAP: group, value, and the lifetime in tenths if the payload gives one. -/
def readSetCap : List Byte → Option (Nat × Nat × Option Nat)
  | [g, v1, v0] => some (g.toNat, num2 v1 v0, none)
  | [g, v1, v0, l3, l2, l1, l0] => some (g.toNat, num2 v1 v0, some (num4 l3 l2 l1 l0))
  | _ => none

/-- The fields of a START_SWEEP as sent. -/
structure StartSweep where
  kind      : Nat
  group     : Nat
  order     : Nat
  value     : Nat
  wait      : Bool
  condition : Nat
  tolerance : Nat
  deriving DecidableEq, Repr

/-- START_SWEEP: kind, group, order, value, wait flag, condition, tolerance. -/
def readStartSweep : List Byte → Option StartSweep
  | [k, g, o, v1, v0, w, c, t1, t0] =>
    some { kind := k.toNat, group := g.toNat, order := o.toNat, value := num2 v1 v0, wait := waitFlag w,
           condition := c.toNat, tolerance := num2 t1 t0 }
  | _ => none

/-- Items of field number and value, three bytes each. -/
def readItems : List Byte → Option (List (Nat × Byte × Byte))
  | [] => some []
  | n :: hi :: lo :: rest => (readItems rest).map ((n.toNat, hi, lo) :: ·)
  | _ => none

/-- The items of a write fit: 1 to `most` of them, each field number 1 to `most` and named once (08 R175 step 2). -/
def itemsFit (most : Nat) (fields : List Nat) : Bool :=
  decide (1 ≤ fields.length) && decide (fields.length ≤ most)
    && fields.all (fun f => 1 ≤ f && f ≤ most) && decide fields.Nodup

/-- WRITE_DRIVE_SETUP: drive, then 1 to 18 items. -/
def readWriteSetup : List Byte → Option (Nat × List (Nat × Nat))
  | d :: rest =>
    match readItems rest with
    | some items =>
      if itemsFit 18 (items.map (·.1)) then some (d.toNat, items.map (fun i => (i.1, num2 i.2.1 i.2.2))) else none
    | none => none
  | [] => none

/-- WRITE_COMPARTMENT_SETUP: 1 to 20 items; frost_start and frost_full are signed (08 R181). -/
def readWriteCompartment (payload : List Byte) : Option (List (Nat × Int)) :=
  match readItems payload with
  | some items =>
    if itemsFit 20 (items.map (·.1)) then
      some (items.map (fun i => (i.1, if Compartment.signed i.1 then num2s i.2.1 i.2.2 else (num2 i.2.1 i.2.2 : Int))))
    else none
  | none => none

/-- WRITE_GROUP: group, label length, label, member count, members; the length is 3 plus the two counts. -/
def readWriteGroup : List Byte → Option (Nat × List Byte × List Nat)
  | g :: n :: rest =>
    match rest.drop n.toNat with
    | m :: members =>
      if n.toNat ≤ rest.length ∧ members.length = m.toNat then
        some (g.toNat, rest.take n.toNat, members.map (·.toNat))
      else none
    | [] => none
  | _ => none

/-- The payload of an OBSERVATION frame, 10 bytes (08 R188). The flags byte names four flags; its bits 4 to 7 are
disregarded (log entry 44). -/
def readObservation : List Byte → Option WireObservation
  | [m, f, a1, a0, g1, g0, d1, d0, t1, t0] =>
    some { mast := m, directionOn := f.getLsbD 0, tempOn := f.getLsbD 1, rain := f.getLsbD 2, snow := f.getLsbD 3,
           mean := a1 ++ a0, gust := g1 ++ g0, direction := d1 ++ d0, temp := t1 ++ t0 }
  | _ => none

end Sys2Proof.Machine
end

