-- ==== Sys2Proof/Machine/Frames.lean ====
section
/-! DEFINITION. The frames of the serial lines (08 R171, R187): the CRC, the bytes of a frame, and the receiver. -/

namespace Sys2Proof.Machine

/-- One bit of the CRC register: polynomial x^16 + x^12 + x^5 + 1 (08 R187). -/
def crcShift (r : BitVec 16) : BitVec 16 := if r.msb then (r <<< 1) ^^^ 0x1021#16 else r <<< 1

/-- One byte into the CRC register, most significant bit first (08 R187). -/
def crcByte (r : BitVec 16) (b : Byte) : BitVec 16 :=
  (List.range 8).foldl (fun r _ => crcShift r) (r ^^^ (b.zeroExtend 16 <<< 8))

/-- The CRC of bytes in the order sent, from FFFFh (08 R187). -/
def crc16 (bytes : List Byte) : BitVec 16 := bytes.foldl crcByte 0xFFFF#16

/-- The start byte (08 R171). -/
def startByte : Byte := 0xA5#8

/-- The bytes the CRC is computed over: length, kind, tag, payload (08 R187). -/
def Frame.body (f : Frame) : List Byte := BitVec.ofNat 8 f.payload.length :: f.kind :: f.tag :: f.payload

/-- The bytes of a frame on the line (08 R187). -/
def Frame.bytes (f : Frame) : List Byte := startByte :: f.body ++ byte2 (crc16 f.body).toNat

/-- What a byte does to a receiver: the receiver after it, and the frame it completes, if any (08 R171). `bytes` are
those received after the start byte. -/
def Receiver.take (rx : Receiver) (b : Byte) : Receiver × Option Frame :=
  match rx with
  | .hunting => (if b = startByte then .inFrame [] else .hunting, none)
  | .inFrame [] => (if Config.maxPayload < b.toNat then .hunting else .inFrame [b], none)
  | .inFrame (n :: got) =>
    let all := n :: got ++ [b]
    if all.length < n.toNat + 5 then (.inFrame all, none)
    else
      match all with
      | _ :: kind :: tag :: rest =>
        let f : Frame := { kind := kind, tag := tag, payload := rest.take n.toNat }
        if rest.drop n.toNat = byte2 (crc16 (all.take (n.toNat + 3))).toNat then (.hunting, some f) else (.hunting, none)
      | _ => (.hunting, none)

/-- The kinds of requests, 01h to 19h (08 R174). -/
def isRequestKind (k : Byte) : Bool := decide (1 ≤ k.toNat) && decide (k.toNat ≤ 25)

/-- The kind of an OBSERVATION frame, 40h (08 R187). -/
def observationKind : Byte := 0x40#8

/-- A complete frame arrives on a master port (08 R172): a request joins the tail of the inbound queue if it has a
place; any other frame is discarded. -/
def State.frameArrives (s : State) (p : Port) (f : Frame) : State :=
  let q := s.port p
  if isRequestKind f.kind = true ∧ q.inbound.length < Config.queuePlaces then
    s.setPort p { q with inbound := q.inbound ++ [f] }
  else s

/-- A complete frame arrives on the WEATHER port (08 R172). -/
def State.weatherFrame (s : State) (f : Frame) : State :=
  if f.kind = observationKind then
    match readObservation f.payload with
    | some o => s.observe o
    | none => s
  else s

/-- A byte arrives on a master port (08 R171, R183): ignored while the port transmits or the unit is held in reset
(10 R205), and then too it ends the quiet of the line (log entry 54). -/
def State.masterByte (s : State) (p : Port) (b : Byte) : State :=
  let q := s.port p
  if s.held ∨ q.sending.isSome then s.setPort p { q with quiet := false }
  else
    let x := q.receiver.take b
    let s1 := s.setPort p { q with receiver := x.1, quiet := false }
    match x.2 with
    | some f => s1.frameArrives p f
    | none => s1

/-- A byte arrives on the WEATHER port (08 R171); ignored while the unit is held in reset (10 R205). -/
def State.weatherByte (s : State) (b : Byte) : State :=
  if s.held then s
  else
    let x := s.weatherRx.take b
    let s1 := { s with weatherRx := x.1 }
    match x.2 with
    | some f => s1.weatherFrame f
    | none => s1

end Sys2Proof.Machine
end

