-- ==== Sys2Proof/Machine/Records.lean ====
section
/-! DEFINITION. The records that cross a port: drive status (08 R189), envelope (R190), sweep context (R191), faults (06 R144)
and the setups (08 R174). -/

namespace Sys2Proof.Machine

/-- Whole seconds, rounded up, of a time in tenths (02 R28, 03 R78). -/
def secondsUp (tenths : Nat) : Nat := ceilDiv tenths 10

/-- The remaining lifetime that a live PANEL or CLIMATE entry shows: whole seconds rounded up, and at least 1 s, also
when its timer stands at its end and the lapse has not been taken yet (02 R28, R39). -/
def liveSeconds (tenths : Nat) : Nat := max 1 (secondsUp tenths)

/-- Five bytes of a live demand: source, value, remaining lifetime in seconds (08 R189). -/
def demandItem (src : Source) (value seconds : Nat) : List Byte :=
  byte1 src.code ++ byte2 value ++ byte2 seconds

/-- The live demand list, in authority order (02 R28, 08 R189); a LOCKOUT entry has value and lifetime 0. -/
def Demand.live (m : Demand) : List (List Byte) :=
  (if m.lockout then [demandItem .lockout 0 0] else [])
  ++ (match m.panel with | some h => [demandItem .panel h.value (liveSeconds h.left)] | none => [])
  ++ (match m.climate with | some h => [demandItem .climate h.value (liveSeconds h.left)] | none => [])

/-- The drive status record (08 R189), taken at this moment: a RUNNING drive with its interpolated position (01 R2). -/
def State.driveStatus (s : State) (d : Drive) : List Byte :=
  let r := s.drive d
  let m := r.demand
  byte1 (driveNumber d) ++ byte1 (s.setup d).kind.code ++ byte1 r.motion.state.code ++ byte1 r.motion.direction.code
  ++ byte2 (s.livePosition d) ++ byte1 r.book.knowledge.code ++ byte2 m.target ++ byte1 m.governing.code
  ++ byte2 m.floor ++ byte2 m.ceiling ++ flag1 m.conflict ++ byte1 r.motion.retryCount ++ byte1 r.active.code
  ++ byte1 r.faults.latched.code ++ flag1 m.cap.isSome ++ byte2 ((m.cap.map Held.value).getD 0)
  ++ byte2 (secondsUp ((m.cap.map Held.left).getD 0)) ++ byte1 m.live.length ++ m.live.flatten

/-- A release timer in the envelope record: whole seconds rounded up, FFFFh when idle (08 R190). -/
def releaseItem : Option Nat → List Byte
  | some t => byte2 (secondsUp t)
  | none => byte2 65535

/-- The envelope record, 31 bytes (03 R78, 08 R190). Parts whose presence flag is clear are 0. -/
def Envelope.record (e : Envelope) : List Byte :=
  let o := e.observation
  let dir := o.bind Observation.direction
  let temp := o.bind Observation.temp
  byte1 e.weather.code
  ++ byte1 (bits [o.isSome, dir.isSome, temp.isSome, (o.map Observation.rain).getD false,
                  (o.map Observation.snow).getD false])
  ++ byte1 ((o.map Observation.mast).getD 0) ++ byte2 ((o.map Observation.mean).getD 0)
  ++ byte2 ((o.map Observation.gust).getD 0) ++ byte2 (dir.getD 0) ++ byte2s (temp.getD 0)
  ++ byte2 (if o.isSome then min 65535 (e.age / 10) else 0) ++ byte2 (e.effective.getD 0)
  ++ byte2 (e.computed.windward.getD 0) ++ byte2 (e.computed.leeward.getD 0)
  ++ byte2 e.held.windward ++ byte2 e.held.leeward ++ releaseItem e.release.windward ++ releaseItem e.release.leeward
  ++ byte1 (bits [e.rain, e.snow]) ++ byte2 e.frostFloor ++ byte1 0

/-- The sweep context record, 21 bytes (07 R166, 08 R191). A place or drive that is none is 0. -/
def SweepCtx.record (x : SweepCtx) (c : Context) : List Byte :=
  byte1 (contextNumber c) ++ byte1 x.state.code ++ flag1 x.completion.isSome ++ byte1 (portCode x.owner)
  ++ byte1 x.kind.code ++ byte1 x.group ++ byte1 x.order.code ++ byte2 x.value ++ flag1 x.wait
  ++ byte1 x.condition.code ++ byte2 x.tolerance ++ byte1 x.members.length ++ byte1 (x.nextIndex.getD 0)
  ++ byte1 (x.inHand.getD 0) ++ byte1 x.processed ++ byte1 x.skipped ++ byte1 x.markers.code
  ++ byte1 (x.foundPlace.getD 0) ++ byte1 ((x.foundDrive.map driveNumber).getD 0)

/-- The summary: kind, drive, MULTIPLE (08 R185). -/
def Summary.record (m : Summary) : List Byte :=
  byte1 ((m.kind.map FaultKind.code).getD 0) ++ byte1 ((m.drive.map driveNumber).getD 0) ++ flag1 m.multiple

/-- The fault record of the compartment (06 R144, 08 R174). -/
def State.faultRecord (s : State) : List Byte :=
  s.faults.summary.record ++ byte1 (bits [s.faults.staleActive, s.faults.storeActive])
  ++ byte1 (bits [s.faults.staleLatched, s.faults.storeLatched])
  ++ allDrives.flatMap (fun d =>
      let r := s.drive d
      byte1 r.active.code ++ byte1 r.faults.latched.code ++ byte1 r.faults.tripCount ++ byte1 r.motion.retryCount)

/-- The 18 fields of a drive setup, 2 bytes each (08 R174). -/
def Setup.record (u : Setup) : List Byte := u.fields.flatMap byte2

/-- The 20 fields of the compartment setup, 2 bytes each; frost_start and frost_full signed (08 R174, R181). -/
def Compartment.record (c : Compartment) : List Byte := c.fields.flatMap byte2s

/-- The label and member list of a group, as READ_GROUP sends them (08 R174, R178); group 0 has an empty label. -/
def State.groupRecord (s : State) (g : Nat) : List Byte :=
  let label := if g = 0 then [] else (s.settings.groups[g - 1]?.getD {}).label
  let members := s.groupMembers g
  byte1 label.length ++ label ++ byte1 members.length ++ members.flatMap (fun d => byte1 (driveNumber d))

/-- The effective target and governing source of a drive, the data of a request that names a drive (08 R174). -/
def State.targetRecord (s : State) (d : Drive) : List Byte :=
  byte2 (s.drive d).demand.target ++ byte1 (s.drive d).demand.governing.code

/-- The displacing source as a displacement record names it; FFh if the record is absent (08 R185, 09 R198). -/
def displacerCode : Option Source → Nat
  | some x => x.code
  | none => 255

/-- The kind of a subject's notice (08 R187). -/
def Subject.kind : Subject → Byte
  | .driveState _ => 0xC1#8
  | .displaced _ => 0xC2#8
  | .sweepDone _ => 0xC3#8
  | .envelope => 0xC4#8
  | .faultSummary => 0xC5#8

/-- The payload of a notice, read at the beginning of its transmission (08 R185, 09 R197, R198). A DISPLACED notice on
the CLIMATE port names CLIMATE as the displaced source, on the PANEL port PANEL. -/
def State.noticePayload (s : State) (p : Port) : Subject → List Byte
  | .driveState d => s.driveStatus d
  | .displaced d =>
    let m := (s.drive d).demand
    match p with
    | .climate => byte1 (driveNumber d) ++ byte1 Source.climate.code ++ byte1 (displacerCode m.displacedClimate)
    | .panel | .heat => byte1 (driveNumber d) ++ byte1 Source.panel.code ++ byte1 (displacerCode m.displacedPanel)
  | .sweepDone c => (s.sweep c).record c
  | .envelope => s.envelope.record
  | .faultSummary => s.faults.summary.record

end Sys2Proof.Machine
end

