-- ==== Sys2Proof/Machine/Sweep.lean ====
section
/-! DEFINITION. The request arbiter's choice (08 R173, 07 R155) and the sweep engine (chapter 7). -/

namespace Sys2Proof.Machine

/-! ### The request arbiter's choice -/

/-- Whether a port is eligible: a request waits and the reply queue has a place (08 R173). -/
def MasterPort.eligible (q : MasterPort) : Bool :=
  !q.inbound.isEmpty && decide (q.replies.length < Config.queuePlaces)

/-- The port whose head request is served next: the first eligible one from the pointer's on, in the cycle CLIMATE,
HEAT, PANEL (08 R173). -/
def State.nextServed (s : State) : Option Port :=
  [s.turn, nextPort s.turn, nextPort (nextPort s.turn)].find? (fun p => (s.port p).eligible)

/-- Whether all three inbound queues are empty (07 R155). -/
def State.noRequests (s : State) : Bool := allPorts.all (fun p => (s.port p).inbound.isEmpty)

/-- The other context. -/
def otherContext : Context → Context
  | .one => .two
  | .two => .one

/-- The context whose step is taken next, if a step may be taken (07 R155): only when all three inbound queues are
empty, first the one the alternation pointer names. -/
def State.nextStepped (s : State) : Option Context :=
  if s.noRequests then
    if (s.sweep s.sweeps.pointer).state = .stepping then some s.sweeps.pointer
    else if (s.sweep (otherContext s.sweeps.pointer)).state = .stepping then some (otherContext s.sweeps.pointer)
    else none
  else none

/-! ### Places -/

/-- The drive at a place of the member list, places numbered from 1 (07 R151). -/
def SweepCtx.memberAt (x : SweepCtx) (place : Nat) : Option Drive :=
  if place = 0 then none else x.members[place - 1]?

/-- The place after `i` in the sweep's order, or none (07 R151, R156). -/
def SweepCtx.placeAfter (x : SweepCtx) (i : Nat) : Option Nat :=
  match x.order with
  | .forward => if i < x.members.length then some (i + 1) else none
  | .reverse => if 1 < i then some (i - 1) else none

/-- The first place of a sweep, or none for an empty list (07 R154). -/
def firstPlace (order : SweepOrder) (n : Nat) : Option Nat :=
  if n = 0 then none
  else match order with
    | .forward => some 1
    | .reverse => some n

/-! ### The end of a sweep -/

/-- A sweep ends: IDLE with a result, the next completion order (from 0 after a reset, log entry 49), and SWEEP_DONE marked pending for its owner
(07 R163). The markers of its end have been set before. -/
def State.endSweep (s : State) (c : Context) (x : SweepCtx) : State :=
  let s1 := s.setSweep c { x with state := .idle, completion := some s.sweeps.nextCompletion, inHand := none }
  (s1.withSweeps { s1.sweeps with nextCompletion := s.sweeps.nextCompletion + 1 }).mark x.owner (.sweepDone c)

/-- A context after a place is done: STEPPING, or ended with EXHAUSTED if no place remains (07 R156, R161, R163). -/
def State.goOn (s : State) (c : Context) (x : SweepCtx) : State :=
  if x.nextIndex.isNone then s.endSweep c { x with markers := { x.markers with exhausted := true } }
  else s.setSweep c { x with state := .stepping, inHand := none }

/-! ### Steps -/

/-- Whether a step passes a member over (07 R156). -/
def State.passedOver (s : State) (k : SweepKind) (d : Drive) : Bool :=
  (s.setup d).kind == .unused || (s.drive d).motion.state == .absent
    || (k == .home && (s.drive d).demand.lockout)

/-- A context whose member was passed over or counted as skipped (07 R156, R161). -/
def SweepCtx.skip (x : SweepCtx) : SweepCtx :=
  { x with skipped := x.skipped + 1, markers := { x.markers with skippedSome := true } }

/-- A context whose member was acted on (07 R157 to R161). -/
def SweepCtx.process (x : SweepCtx) : SweepCtx := { x with processed := x.processed + 1 }

/-- A step of a context (07 R155 to R158): the pointer comes to name the other context, a member passed over is
skipped, and otherwise `act` acts on the member. With the wait flag the context is WAITING (07 R160). -/
def State.takeStep (s : State) (c : Context) (act : State → Drive → State) : State :=
  let x := s.sweep c
  let s1 := s.withSweeps { s.sweeps with pointer := otherContext c }
  match x.nextIndex.bind (fun i => (x.memberAt i).map (fun d => (i, d))) with
  | none => s1
  | some (i, d) =>
    let x1 := { x with nextIndex := x.placeAfter i }
    if s.passedOver x.kind d then s1.goOn c x1.skip
    else if x.wait then act (s1.setSweep c { x1 with state := .waiting, inHand := some i }) d
    else (act s1 d).goOn c x1.process

/-- Whether a member matches a SCAN condition (07 R159). -/
def State.scanMatches (s : State) (x : SweepCtx) (d : Drive) : Bool :=
  let r := s.drive d
  match x.condition with
  | .offTarget => decide (x.tolerance < dist (s.livePosition d) r.demand.target)
  | .notReferenced => r.book.knowledge != .referenced
  | .faulted => r.motion.state == .faulted || r.motion.state == .retryWait
  | .moving => r.motion.state == .queued || r.motion.state == .running || r.motion.state == .pausing

/-- A SCAN step (07 R159). The next index passes the member's place at its step, whether or not it matches (07 R152). -/
def State.takeScan (s : State) (c : Context) : State :=
  let x := s.sweep c
  let s1 := s.withSweeps { s.sweeps with pointer := otherContext c }
  match x.nextIndex.bind (fun i => (x.memberAt i).map (fun d => (i, d))) with
  | none => s1
  | some (i, d) =>
    let x1 := { x with nextIndex := x.placeAfter i }
    if s.passedOver x.kind d then s1.goOn c x1.skip
    else if s.scanMatches x d then
      s1.endSweep c { x1.process with
        markers := { x.markers with found := true }, foundPlace := some i, foundDrive := some d }
    else s1.goOn c x1.process

/-! ### Waits -/

/-- Whether a drive is at rest (00_scope section 4: at rest). -/
def atRest (m : MotionState) : Bool := m == .stopped || m == .faulted || m == .locked

/-- Whether the wait of a context ends at the end of this event (07 R160, R161): its member is at rest. -/
def State.waitOver (s : State) (c : Context) : Bool :=
  let x := s.sweep c
  x.state == .waiting &&
    (match x.inHand.bind x.memberAt with
     | some d => atRest (s.drive d).motion.state
     | none => false)

/-- The waited member is counted by its motion state and the kind of sweep, and the sweep goes on (07 R161). -/
def State.endWait (s : State) (c : Context) : State :=
  let x := s.sweep c
  match x.inHand.bind x.memberAt with
  | none => s
  | some d =>
    let m := (s.drive d).motion.state
    let counted := if m = .faulted ∨ (x.kind = .home ∧ m = .locked) then x.skip else x.process
    s.goOn c { counted with inHand := none }

/-- The wait of a context ends if its member is at rest. -/
def State.endWaitIfOver (s : State) (c : Context) : State := if s.waitOver c then s.endWait c else s

/-- The reports of the drive controllers to the sweep engine at the end of an event (07 R160, R161). Where both waits
end in one event, the order of their ends is free (log entry 11). -/
def State.settleWaits (s : State) : State :=
  if s.waitOver .one ∧ s.waitOver .two then
    let s1 := { s with freeCount := s.freeCount + 1 }
    if Config.pick s.freeCount % 2 = 0 then (s1.endWaitIfOver .one).endWaitIfOver .two
    else (s1.endWaitIfOver .two).endWaitIfOver .one
  else (s.endWaitIfOver .one).endWaitIfOver .two

/-! ### Starting and cancelling -/

/-- The context a START_SWEEP takes (07 R154): an IDLE one without a result, the lower-numbered if both qualify, and
otherwise the IDLE one whose sweep ended first. None if no context is IDLE. -/
def State.contextToTake (s : State) : Option Context :=
  let a := s.sweep .one
  let b := s.sweep .two
  let idleA := a.state == .idle
  let idleB := b.state == .idle
  if idleA && a.completion.isNone then some .one
  else if idleB && b.completion.isNone then some .two
  else if idleA && idleB then
    (if a.completion.getD 0 ≤ b.completion.getD 0 then some .one else some .two)
  else if idleA then some .one
  else if idleB then some .two
  else none

/-- A context taken by a START_SWEEP (07 R154); an empty member list ends the sweep in the same event. -/
def State.startSweep (s : State) (c : Context) (x : SweepCtx) : State :=
  if x.members.isEmpty then s.endSweep c { x with markers := { x.markers with exhausted := true } }
  else s.setSweep c { x with state := .stepping }

/-- An owner's CANCEL_SWEEP on an active context (07 R164): a member in hand is counted as processed. -/
def State.cancelSweep (s : State) (c : Context) : State :=
  let x := s.sweep c
  let y := if x.state = .waiting then x.process else x
  s.endSweep c { y with markers := { y.markers with cancelled := true } }

end Sys2Proof.Machine
end

