-- ==== Sys2Proof/Machine/Store.lean ====
section
/-! DEFINITION. The settings store (10 R201 to R203) and the two resets (10 R204 to R206). -/

namespace Sys2Proof.Machine

/-! ### Saves -/

/-- The image as it stands in working memory, with the lockout set of the demand table (10 R201, R202). -/
def State.currentImage (s : State) : Image := { settings := s.settings, lockouts := s.lockoutSet }

/-- A save begins (10 R202). -/
def State.beginSave (s : State) : State :=
  s.withStore { s.store with save := some { copy := s.currentImage, elapsed := 0 } }

/-- A lockout change asks for a save (10 R203). Like every save it takes the working copy as it stands, groups among it (10
R201, R202; log entry 41). -/
def State.askSave (s : State) : State :=
  if s.store.save.isSome then s.withStore { s.store with pendingSave := true } else s.beginSave

/-! ### Parts of a reset -/

/-- The port unit, the request arbiter's pointer and the notice unit after a reset (08 R186, 09 R199, R200). -/
def State.resetPorts (s : State) : State :=
  let s1 := allDrives.foldl (fun s d => s.withSubs d ⟨false, false, false⟩) s
  { s1 with ports := ⟨{}, {}, {}⟩, weatherRx := .hunting, turn := .climate, envSubs := ⟨false, false, false⟩ }

/-- The envelope unit's reset state, with the bounds of every drive taken (03 R79, R80). -/
def State.resetEnvelope (s : State) : State :=
  allDrives.foldl State.giveBounds (s.withEnvelope (Envelope.atReset s.comp))

/-- The motion state of a drive after a warm reset (04 R112). -/
def motionAfterWarm : MotionState → MotionState
  | .locked => .locked
  | .absent => .absent
  | .stopped | .queued | .running | .pausing | .retryWait | .faulted => .stopped

/-- The knowledge of a drive after a warm reset that finds it in a motion state (01 R26). -/
def knowledgeAfterWarm (m : MotionState) (k : Knowledge) : Knowledge :=
  match m with
  | .stopped | .locked | .absent => k
  | .faulted => if k = .unknown then .unknown else .estimated
  | .running | .queued | .pausing | .retryWait => .unknown

/-- The warm-reset treatment of one drive's position book, motion record and demand table (01 R26, 04 R112, 02 R55):
its output drops by the early-stop rule, its coast window closes and is reckoned, and its records take their values.
The effective target is the position. DESIGN CHOICE (log entry 53): the window closes first, and the knowledge that the
row of a drive at rest keeps is the one R22 leaves then, ESTIMATED where the reckoned travel passes the distance. -/
def State.warmDrive (s : State) (d : Drive) : State :=
  let before := (s.drive d).motion.state
  let s1 := (s.dropOutput d).closeCoast d
  let r := s1.drive d
  let m := r.demand
  s1.setDrive d { r with
    book := { r.book with knowledge := knowledgeAfterWarm before r.book.knowledge },
    motion := { state := motionAfterWarm before, travelBase := r.motion.travelBase },
    demand := { m with panel := none, climate := none, cap := none, displacedClimate := none, displacedPanel := none,
                       governing := .fallback, conflict := false, target := r.book.position } }

/-- A drive found ABSENT reports CARD_ABSENT (06 R145, R146). -/
def State.reportAbsent (s : State) (d : Drive) : State :=
  if (s.drive d).motion.state = .absent then s.report d .cardAbsent else s

/-- The first resolution of a drive after a reset, and the decision that follows it (02 R54, R55; 04 R111, R112). -/
def State.resolveAfterReset (s : State) (d : Drive) : State :=
  let s1 := s.resolve d
  if (s1.drive d).motion.state = .stopped then s1.settleStopped d else s1

/-- The switch changes of one drive taken at the end of the hold as changes arriving then (01 R26, 10 R205), in a free
order if both switches changed (log entry 20), a switch that became inactive by 01 R20 (log entry 51); then BOTH_ENDS if
both are active and it has not been reported since the reset (06 R146). -/
def State.takeSwitches (s : State) (d : Drive) : State :=
  let p := (s.drive d).pins
  let two := p.closedPin != p.closedTaken && p.openPin != p.openTaken
  let first : End := if two && Config.pick (s.freeCount + d.val) % 2 == 1 then .opened else .closed
  let s1 := s.takeSwitch d first (p.level first)
  let s2 := s1.takeSwitch d (otherEnd first) (p.level (otherEnd first))
  if s2.bothOn d && !(s2.drive d).faults.bothHeld then s2.bothEnds d else s2

/-- The inputs of one drive taken at the end of the hold: its switches and the level of its trip contact (10 R205; log
entries 20, 43). DESIGN CHOICE (log entry 55): where the trip contact changed, and a switch changed too or BOTH_ENDS is to
be reported anew for switches that stood active throughout (06 R146), the spec gives no order, and a free value does. -/
def State.takeInputs (s : State) (d : Drive) : State :=
  let p := (s.drive d).pins
  let switchesAct := p.closedPin != p.closedTaken || p.openPin != p.openTaken ||
    (s.bothOn d && !(s.drive d).faults.bothHeld)
  if p.tripPin != p.tripOpen && switchesAct && Config.pick (s.freeCount + 24 + d.val) % 2 == 1 then (s.takeTripLevel d).takeSwitches d
  else (s.takeSwitches d).takeTripLevel d

/-- The reset line is at rest: the hold ends (10 R205). The stale timer starts with its full stale_timeout, and the
inputs are taken. -/
def State.endHold (s : State) (order : List Drive) : State :=
  let s1 := { s.withEnvelope { s.envelope with stale := some s.comp.staleTimeout } with held := false }
  let s2 := (drivesIn order).foldl State.takeInputs s1
  { s2 with freeCount := s2.freeCount + 48 }

/-- The warm reset acts on every block in one event (10 R206). Every output drops, and the drives are resolved in the
order given (log entry 9). -/
def State.actWarmReset (s : State) (order : List Drive) : State :=
  let s1 := { s.withStore { s.store with deferredReset := false } with held := s.resetLine, granted := false }
  let s2 := (drivesIn order).foldl State.warmDrive s1
  let s3 := s2.resetPorts.clearFaults
  let s4 := (s3.withSweeps {}).withArbiter { spacing := s3.arbiter.spacing, restart := none }
  let s5 := s4.resetEnvelope
  let s6 := allDrives.foldl State.reportAbsent s5
  let s7 := if s6.store.imageFailed then s6.reportStore else s6
  let s8 := (drivesIn order).foldl State.resolveAfterReset s7
  if s8.held then s8 else s8.endHold order

/-! ### Cold start (10 R204) -/

/-- The card of a drive (00_scope 5.2). -/
def cardOf (d : Drive) : Card := ⟨d.val / 4, by omega⟩

/-- The motion state of a drive after a cold reset (04 R111, 10 R204). -/
def coldMotion (present : Vector Bool 6) (u : Setup) (d : Drive) : MotionState :=
  if u.kind ≠ .unused ∧ present[cardOf d] = false then .absent else .stopped

/-- The record of one drive at a cold reset, before its first resolution (01 R25, 02 R54, 04 R111): its inputs stand
as the contacts are. -/
def coldDrive (img : Image) (present : Vector Bool 6) (pins : Pins) (d : Drive) : DriveRec :=
  { motion := { state := coldMotion present img.settings.setups[d] d },
    demand := { lockout := img.lockouts.contains d },
    pins := { pins with closedTaken := pins.closedPin, openTaken := pins.openPin, tripOpen := pins.tripPin } }

/-- A switch that is active at start-up is taken as becoming active then (01 R25): both active are BOTH_ENDS, and one
references its drive (log entry 21). -/
def State.coldSwitches (s : State) (d : Drive) : State :=
  if s.bothOn d then s.bothEnds d
  else if s.switchOn d .closed then s.switchTurnedOn d .closed
  else if s.switchOn d .opened then s.switchTurnedOn d .opened
  else s

/-- Whether a cold start leaves the image of a save in flight partly written (10 R202; log entry 13). -/
def Store.cutBy (st : Store) (imageCut : Bool) : Bool := st.save.isSome && imageCut

/-- Whether the stored image passes its check at a cold start: a save that the cold start cuts may have left it partly
written (10 R202, R204; log entry 13). -/
def Store.intactAfterCut (st : Store) (imageCut : Bool) : Bool := st.intact && !st.cutBy imageCut

/-- The CRC that stands with the stored image at a cold start: that of a cut image is free (10 R202; log entry 14). -/
def Store.crcAfterCut (st : Store) (imageCut : Bool) (k : Nat) : BitVec 32 :=
  if st.cutBy imageCut then Config.cutCrc k else st.crc

/-- A cold reset (10 R204): the image is loaded or the factory defaults taken, card presence is read, every block takes
its cold-reset values, and the drives are resolved in the order given. The contacts, the reset line, the waiting
commands and the count of free values are no part of what a reset sets. -/
def State.actColdReset (s : State) (present : Vector Bool 6) (imageCut : Bool) (order : List Drive) : State :=
  let intact := s.store.intactAfterCut imageCut
  let img : Image := if intact then s.store.stored else {}
  let base : State :=
    { State.reset with
      settings := img.settings,
      store := { stored := s.store.stored, crc := s.store.crcAfterCut imageCut s.freeCount, intact := intact,
                 imageFailed := !intact, present := present },
      arbiter := { restart := some img.settings.compartment.restartHold },
      resetLine := s.resetLine, pending := s.pending,
      freeCount := if s.store.cutBy imageCut then s.freeCount + 1 else s.freeCount }
  let s1 := allDrives.foldl (fun t d => t.setDrive d (coldDrive img present (s.drive d).pins d)) base
  let s2 := s1.resetEnvelope
  let s3 := if s2.store.imageFailed then s2.reportStore else s2
  let s4 := allDrives.foldl State.reportAbsent s3
  let s5 := (drivesIn order).foldl State.resolveAfterReset s4
  (drivesIn order).foldl State.coldSwitches s5

end Sys2Proof.Machine
end

