-- ==== Sys2Proof/Machine/Replies.lean ====
section
/-! DEFINITION. The service of one request (08 R173 to R176): the request arbiter's choice, the checks of R175 steps 1 and 2, and
the reply. -/

namespace Sys2Proof.Machine

/-- An outcome of a reply (08 R176). -/
inductive Result where
  | done | notPermitted | badDrive | badValue | busy | locked | absent
  deriving DecidableEq, Repr

/-- The value of an outcome (08 R176). -/
def Result.code : Result → Byte
  | .done => 0
  | .notPermitted => 1
  | .badDrive => 2
  | .badValue => 3
  | .busy => 4
  | .locked => 5
  | .absent => 6

/-- What a served request leaves: the state, the outcome and the data of a DONE reply. -/
structure Answer where
  state  : State
  result : Result
  data   : List Byte
  deriving DecidableEq, Repr

/-- A request that is refused changes nothing, and its reply carries no data (08 R174, R175). -/
def refuse (s : State) (r : Result) : Answer := { state := s, result := r, data := [] }

/-- A request that is carried out, with its data. -/
def doneWith (s : State) (data : List Byte) : Answer := { state := s, result := .done, data := data }

/-- A request that names a drive is answered DONE with the effective target and governing source as they stand when
its work is done (08 R174). -/
def doneDrive (s : State) (d : Drive) : Answer := doneWith s (s.targetRecord d)

/-- The reply of a request (08 R175): its kind plus 80h, its tag, the outcome and the data (log entry 29). -/
def replyTo (f : Frame) (a : Answer) : Frame :=
  { kind := f.kind + 0x80#8, tag := f.tag, payload := a.result.code :: a.data }

/-- A reply joins the tail of a port's reply queue (08 R175). -/
def State.pushReply (s : State) (p : Port) (f : Frame) : State :=
  s.setPort p { s.port p with replies := (s.port p).replies ++ [f] }

/-- The head request of a port, if the request arbiter serves it next and it is of a kind (08 R173). While the unit is
held in reset nothing is served (10 R205). -/
def State.headToServe (s : State) (p : Port) (kind : Byte) : Option Frame :=
  if s.held = false ∧ s.nextServed = some p then
    match (s.port p).inbound with
    | f :: _ => if f.kind = kind then some f else none
    | [] => none
  else none

/-- The head request leaves its inbound queue and the pointer names the port that follows (08 R173, R175). -/
def State.takeHead (s : State) (p : Port) : State :=
  { s.setPort p { s.port p with inbound := (s.port p).inbound.tail } with turn := nextPort p }

/-- What an event of the unit is, whole: its effect, then the reports of rest to the sweep engine (07 R160). -/
def State.event (s : State) (effect : State → State) : State := (effect s.clearEvent).settleWaits.clearEvent

/-- The service of a request (08 R175): step 1 checks the port, `work` makes the checks of steps 2 and 3 and does the
owner's work, and the reply is formed. -/
def State.answer (s : State) (p : Port) (f : Frame) (allowed : Bool) (work : State → List Byte → Answer) : State :=
  let s1 := s.takeHead p
  let a := if allowed then work s1 f.payload else refuse s1 .notPermitted
  a.state.pushReply p (replyTo f a)

/-- The service of the head request of a port, if it is of a kind and is served next; otherwise nothing happens (log
entry 1). -/
def State.serve (s : State) (p : Port) (kind : Byte) (allowed : Bool) (work : State → List Byte → Answer) : State :=
  match s.headToServe p kind with
  | some f => s.event (fun t => t.answer p f allowed work)
  | none => s

/-- The ports CLIMATE and PANEL (08 R174). -/
def notHeat (p : Port) : Bool := p != .heat

/-- Step 2 of 08 R175: a payload that does not fit its kind is refused with BAD_VALUE. -/
def withPayload {α : Type} (s : State) (read : Option α) (work : α → Answer) : Answer :=
  match read with
  | some x => work x
  | none => refuse s .badValue

/-- A request's drive number is 1 to 24, or the request is refused with BAD_DRIVE (02 R29, 04 R102, 06 R137, 08 R178,
R180). -/
def withDrive (s : State) (n : Nat) (work : Drive → Answer) : Answer :=
  match driveOf n with
  | some d => work d
  | none => refuse s .badDrive

/-- The drive's kind is not UNUSED, or the request is refused with BAD_DRIVE (02 R29, 04 R102). -/
def withUsed (s : State) (d : Drive) (work : Answer) : Answer :=
  if (s.setup d).kind = .unused then refuse s .badDrive else work

/-- The drive's motion state is not ABSENT, or the request is refused with ABSENT (02 R29, 04 R102, 06 R137). -/
def withPresent (s : State) (d : Drive) (work : Answer) : Answer :=
  if (s.drive d).motion.state = .absent then refuse s .absent else work

/-- The drive is not under lockout, or the request is refused with LOCKED (02 R29, 04 R102). -/
def withUnlocked (s : State) (d : Drive) (work : Answer) : Answer :=
  if (s.drive d).demand.lockout then refuse s .locked else work

end Sys2Proof.Machine
end

