-- ==== Sys2Proof/Machine/DriveEvents.lean ====
section
/-! DEFINITION. The commands of the drive controllers: the expiries of their timers, encoder pulses, switch changes, trip contact
changes and progress points (01, 04, 06). -/

namespace Sys2Proof.Machine

/-! ### Outputs -/

/-- Whether an output of a drive is energised (04 R82): the output of the direction, while the drive is RUNNING; none
while the unit is held in reset (10 R205; log entry 8). -/
def State.outputOn (s : State) (d : Drive) (dir : Direction) : Bool :=
  !s.held && (s.drive d).motion.state == .running && (s.drive d).motion.direction == dir

/-! ### Expiries -/

/-- An expiry of the unit, if its timer stands at its end; otherwise nothing happens (log entry 1). The timers stand
still while the unit is held in reset (10 R205; log entry 8). -/
def State.expiry (s : State) (due : Bool) (effect : State → State) : State :=
  if s.held = false ∧ due = true then s.event effect else s

/-- The plan of a RUNNING VENT. -/
def Motion.ventRun (m : Motion) : Option VentPlan :=
  match m.state, m.run with
  | .running, some (.vent p) => some p
  | _, _ => none

/-- Whether the run timer of a VENT has reached its planned time (01 R6). -/
def Motion.plannedDue (m : Motion) : Bool := m.ventRun.any (fun p => decide (p.planned ≤ p.timer))

/-- The planned expiry of a VENT run (01 R8, 04 R90). -/
def State.plannedExpiry (s : State) (d : Drive) : State :=
  match (s.drive d).motion.ventRun with
  | some p => (s.completeRun d p.aim).grantIf (s.yields d)
  | none => s

/-- PLANNED_EXPIRY (01 R8). -/
def execPlannedExpiry (d : Drive) (s : State) : Host.Outcome State Fault Refusal :=
  .next (s.expiry (s.drive d).motion.plannedDue (State.plannedExpiry · d))

/-- The train of a VALVE whose pulse is in hand. -/
def Motion.pulse (m : Motion) : Option Train :=
  match m.state, m.train with
  | .running, some t => some t
  | _, _ => none

/-- Whether a pulse has run its full length (01 R11). -/
def Motion.pulseDue (m : Motion) : Bool := m.pulse.any (fun t => decide (t.length ≤ t.elapsed))

/-- A full pulse that leaves owed time remaining (01 R12, 04 R97, R110): the position is set, the inter-pulse pause
begins, and a progress point is reached at a whole multiple of notice_interval. -/
def State.pauseTrain (s : State) (d : Drive) (t : Train) : State :=
  let r := s.drive d
  let u := s.setup d
  let p := t.position (u.stroke r.motion.direction) t.done
  let s1 := s.setBook d (Book.grow { r.book with position := p } s.comp.rereferenceDistance (dist p r.book.position))
  let point := t.number % u.noticeInterval == 0
  let m := (s1.drive d).motion
  let s2 := s1.withMotion d { m with
    state := .pausing, train := some t, pause := some { kind := .interPulse, left := t.pulseOff },
    lastProgress := if point then some t.number else m.lastProgress }
  if point then s2.markDrive d else s2

/-- The end of a full pulse (01 R11, R12; 04 R97). The pulse that ends the train leaves the last progress point as it is (04
R110; log entry 48). -/
def State.pulseEnd (s : State) (d : Drive) : State :=
  match (s.drive d).motion.pulse with
  | some t =>
    let t1 := { t with done := t.done + (t.length - (s.setup d).startLag) }
    if t1.owed ≤ t1.done then s.completeRun d t1.aim else s.pauseTrain d t1
  | none => s

/-- PULSE_END (04 R97). -/
def execPulseEnd (d : Drive) (s : State) : Host.Outcome State Fault Refusal :=
  .next (s.expiry (s.drive d).motion.pulseDue (State.pulseEnd · d))

/-- Whether a pause of a kind has reached its end (04 R94 to R97). -/
def Motion.pauseDue (m : Motion) (k : PauseKind) : Bool :=
  m.state == .pausing && m.pause.any (fun p => p.kind == k && p.left == 0)

/-- INTER_PULSE_EXPIRY (04 R97): the next pulse starts. -/
def execInterPulseExpiry (d : Drive) (s : State) : Host.Outcome State Fault Refusal :=
  .next (s.expiry ((s.drive d).motion.pauseDue .interPulse) (State.startPulse · d))

/-- A drive becomes STOPPED, its pause or retry wait at its end, and makes the decision of 04 R86 (04 R94, R95,
R106). -/
def State.becomeStopped (s : State) (d : Drive) : State :=
  let m := (s.drive d).motion
  ((s.withMotion d { m with pause := none, retryLeft := none }).setMotionState d .stopped).decideMotion d

/-- SETTLE_EXPIRY (04 R94). -/
def execSettleExpiry (d : Drive) (s : State) : Host.Outcome State Fault Refusal :=
  .next (s.expiry ((s.drive d).motion.pauseDue .settle) (State.becomeStopped · d))

/-- REVERSAL_EXPIRY (04 R95). -/
def execReversalExpiry (d : Drive) (s : State) : Host.Outcome State Fault Refusal :=
  .next (s.expiry ((s.drive d).motion.pauseDue .reversal) (State.becomeStopped · d))

/-- Whether a retry wait has reached its end (06 R131). -/
def Motion.retryDue (m : Motion) : Bool := m.state == .retryWait && m.retryLeft == some 0

/-- RETRY_WAIT_EXPIRY (04 R106, 06 R131). -/
def execRetryWaitExpiry (d : Drive) (s : State) : Host.Outcome State Fault Refusal :=
  .next (s.expiry (s.drive d).motion.retryDue (State.becomeStopped · d))

/-- Whether the pulse-gap timer of a RUNNING SCREEN has expired (06 R129). -/
def Motion.stallDue (m : Motion) : Bool := m.state == .running && m.pulseGap == some 0

/-- STALL (06 R129, R130). -/
def execStall (d : Drive) (s : State) : Host.Outcome State Fault Refusal :=
  .next (s.expiry (s.drive d).motion.stallDue (fun t => (t.tripped d .stall).grantIf (t.yields d)))

/-- Whether a coast window has reached its end (01 R14). -/
def Motion.coastDue (m : Motion) : Bool := m.coast.any (fun c => c.left == 0)

/-- A coast window expires (01 R14, R22). A QUEUED drive whose knowledge this changes makes its decision again (04
R88; log entry 24). -/
def State.coastExpiry (s : State) (d : Drive) : State :=
  let s1 := s.closeCoast d
  if (s1.drive d).book.knowledge ≠ (s.drive d).book.knowledge ∧ (s1.drive d).motion.state = .queued then
    s1.reevaluate d
  else s1

/-- COAST_WINDOW_EXPIRY (01 R14). -/
def execCoastWindowExpiry (d : Drive) (s : State) : Host.Outcome State Fault Refusal :=
  .next (s.expiry (s.drive d).motion.coastDue (State.coastExpiry · d))

/-! ### Inputs -/

/-- The plan of a RUNNING SCREEN. -/
def Motion.screenRun (m : Motion) : Option ScreenPlan :=
  match m.state, m.run with
  | .running, some (.screen p) => some p
  | _, _ => none

/-- An encoder pulse at a drive controller that takes it (01 R13 to R15). -/
def State.takePulse (s : State) (d : Drive) : State :=
  match (s.drive d).motion.screenRun, (s.drive d).motion.coast with
  | some p, _ => s.runPulse d p
  | none, some c => s.coastPulse d c
  | none, none => s.strayPulse d

/-- ENCODER_PULSE (01 R13 to R16): ignored but for a SCREEN that takes its inputs (01 R1), and while the unit is held in
reset (10 R205). -/
def execEncoderPulse (d : Drive) (s : State) : Host.Outcome State Fault Refusal :=
  .next (if s.held = false ∧ s.takesInputs d = true ∧ (s.setup d).kind = .screen then s.event (State.takePulse · d)
    else s)

/-- A switch contact changes: its level at the pin, and, unless the unit is held in reset, the change taken (01 R1, 10
R205). A contact that already stands so does not change. -/
def State.switchChange (s : State) (d : Drive) (e : End) (b : Bool) : State :=
  let p := (s.drive d).pins
  if p.level e = b then s
  else
    let s1 := s.withPins d (p.withLevel e b)
    if s.held then s1 else s1.event (fun t => t.takeSwitch d e b)

/-- SWITCH_ACTIVE (01 R17 to R19). -/
def execSwitchActive (d : Drive) (e : End) (s : State) : Host.Outcome State Fault Refusal :=
  .next (s.switchChange d e true)

/-- SWITCH_INACTIVE (01 R20). -/
def execSwitchInactive (d : Drive) (e : End) (s : State) : Host.Outcome State Fault Refusal :=
  .next (s.switchChange d e false)

/-- A trip contact changes: its level at the pin, and, unless the unit is held in reset, the level taken (06 R128, 10
R205; log entry 43). A contact that already stands so does not change. -/
def State.tripChange (s : State) (d : Drive) (b : Bool) : State :=
  let p := (s.drive d).pins
  if p.tripPin = b then s
  else
    let s1 := s.withPins d { p with tripPin := b }
    if s.held then s1 else s1.event (State.takeTripLevel · d)

/-- TRIP_CONTACT_ACTIVE (06 R128): the contact opens. -/
def execTripContactActive (d : Drive) (s : State) : Host.Outcome State Fault Refusal :=
  .next (s.tripChange d true)

/-- TRIP_CONTACT_INACTIVE (06 R128): the contact closes, with no further effect. -/
def execTripContactInactive (d : Drive) (s : State) : Host.Outcome State Fault Refusal :=
  .next (s.tripChange d false)

/-! ### Progress -/

/-- Whether a RUNNING VENT has newly reached a progress point (04 R109). -/
def State.progressDue (s : State) (d : Drive) : Bool :=
  (s.drive d).motion.ventRun.isSome && (nextProgress (s.setup d) (s.drive d).motion (s.livePosition d)).isSome

/-- PROGRESS_POINT_REACHED (04 R109). -/
def execProgressPointReached (d : Drive) (s : State) : Host.Outcome State Fault Refusal :=
  .next (s.expiry (s.progressDue d) (State.reachProgress · d))

end Sys2Proof.Machine
end

