-- ==== Sys2Proof/Machine/UnitEvents.lean ====
section
/-! DEFINITION. The commands of the demand table's timers, the envelope unit and the start arbiter (02, 03, 05). -/

namespace Sys2Proof.Machine

/-! ### The demand table -/

/-- Whether the lifetime of an entry has reached its end (02 R38). -/
def Demand.lapseDue (m : Demand) (src : TimedSource) : Bool := (m.entry src).any (fun h => h.left == 0)

/-- DEMAND_LAPSE (02 R38). -/
def execDemandLapse (d : Drive) (src : TimedSource) (s : State) : Host.Outcome State Fault Refusal :=
  .next (s.expiry ((s.drive d).demand.lapseDue src) (fun t => t.removeDemand d src))

/-- Whether the lifetime of a heat cap has reached its end (02 R43). -/
def Demand.capDue (m : Demand) : Bool := m.cap.any (fun h => h.left == 0)

/-- CAP_LAPSE (02 R43). -/
def execCapLapse (d : Drive) (s : State) : Host.Outcome State Fault Refusal :=
  .next (s.expiry (s.drive d).demand.capDue (State.removeCap · d))

/-- Whether a pair of bounds is on its way to a drive (03 R70). -/
def State.pushDue (s : State) (d : Drive) : Bool := s.envelope.pushes.any (fun p => decide (p.drive = d))

/-- ENVELOPE_PUSH (02 R46, 03 R70). -/
def execEnvelopePush (d : Drive) (s : State) : Host.Outcome State Fault Refusal :=
  .next (s.expiry (s.pushDue d) (State.takePush · d))

/-! ### The envelope unit -/

/-- OBSERVATION (03 R57, R58; 08 R172): a complete frame of the mast, discarded while the unit is held in reset (10
R205). -/
def execObservation (o : WireObservation) (s : State) : Host.Outcome State Fault Refusal :=
  .next (if s.held then s else { s with weatherRx := .hunting }.event (State.observe · o))

/-- RELEASE_TIMER_EXPIRY (03 R64). -/
def execReleaseTimerExpiry (x : Side) (s : State) : Host.Outcome State Fault Refusal :=
  .next (s.expiry (s.envelope.release.get x == some 0) (State.expireRelease · x))

/-- STALE_TIMER_EXPIRY (03 R72). -/
def execStaleTimerExpiry (s : State) : Host.Outcome State Fault Refusal :=
  .next (s.expiry (s.envelope.stale == some 0) State.expireStale)

/-! ### The start arbiter -/

/-- GRANT (05 R118). -/
def execGrant (s : State) : Host.Outcome State Fault Refusal :=
  .next (if s.canGrant then s.event State.grantHead else s)

/-- The spacing timer expires (05 R122). -/
def State.spacingExpires (s : State) : State := (s.withArbiter { s.arbiter with spacing := none }).grantIfAble

/-- SPACING_EXPIRY (05 R122). The spacing timer runs on through a reset and its hold (05 R127). -/
def execSpacingExpiry (s : State) : Host.Outcome State Fault Refusal :=
  .next (if s.arbiter.spacing = some 0 then s.event State.spacingExpires else s)

/-- A VALVE is told that the restart hold has ended (05 R124). -/
def State.tellValve (s : State) (d : Drive) : State :=
  if (s.setup d).kind = .valve then s.decideMotion d else s

/-- The restart hold expires (05 R124). -/
def State.restartExpires (s : State) : State :=
  (allDrives.foldl State.tellValve (s.withArbiter { s.arbiter with restart := none })).grantIfAble

/-- RESTART_HOLD_EXPIRY (05 R124). -/
def execRestartHoldExpiry (s : State) : Host.Outcome State Fault Refusal :=
  .next (s.expiry (s.arbiter.restart == some 0) State.restartExpires)

end Sys2Proof.Machine
end

