-- ==== Sys2Proof/Machine/PortEvents.lean ====
section
/-! DEFINITION. The commands of the serial lines: bytes, frames, gaps and transmissions (08 R171, R172, R183 to R185, 09 R197). -/

namespace Sys2Proof.Machine

/-- REQUEST_ARRIVAL (08 R172): a complete frame with a matching CRC. It is not received while the port transmits (08
R183) or the unit is held in reset (10 R205), and a frame holds at most 120 payload bytes (08 R171). DESIGN CHOICE (log entry 54): where it is not received it leaves the
quiet of the line as it stands, while a byte that arrives then ends it (State.masterByte). -/
def execRequestArrival (p : Port) (kind tag : Byte) (payload : List Byte) (s : State) :
    Host.Outcome State Fault Refusal :=
  let q := s.port p
  .next (if s.held = true ∨ q.sending.isSome = true ∨ Config.maxPayload < payload.length then s
    else (s.setPort p { q with receiver := .hunting, quiet := false }).frameArrives p
      { kind := kind, tag := tag, payload := payload })

/-- BYTE_ARRIVAL (08 R171). -/
def execByteArrival (l : Line) (b : Byte) (s : State) : Host.Outcome State Fault Refusal :=
  .next (match l with
    | .master p => s.masterByte p b
    | .weather => s.event (State.weatherByte · b))

/-- INTER_BYTE_GAP (08 R171): more than 5 ms without a byte discard what a receiver holds (log entry 5). -/
def execInterByteGap (l : Line) (s : State) : Host.Outcome State Fault Refusal :=
  .next (match l with
    | .master p => s.setPort p { s.port p with receiver := .hunting, quiet := true }
    | .weather => { s with weatherRx := .hunting })

/-! ### Transmission -/

/-- The queue the next frame is taken from (08 R184): in turn when both hold something. -/
def MasterPort.nextSource (q : MasterPort) : Option LastSource :=
  match q.replies, q.notices with
  | [], [] => none
  | _ :: _, [] => some .reply
  | [], _ :: _ => some .notice
  | _ :: _, _ :: _ => some (match q.lastSource with
    | .reply => .notice
    | .notice => .reply)

/-- Whether the transmitter of a port is free to begin a frame (08 R183); not while the unit is held in reset (log entry
42). -/
def State.mayTransmit (s : State) (p : Port) : Bool :=
  let q := s.port p
  !s.held && q.sending.isNone && q.receiver == .hunting && q.quiet

/-- The frame of a notice (08 R185): the kind of its subject, the notice sequence as its tag, and the payload as it
stands. -/
def State.noticeFrame (s : State) (p : Port) (x : Subject) : Frame :=
  { kind := x.kind, tag := (s.port p).sequence, payload := s.noticePayload p x }

/-- The transmitter begins a frame (08 R184, R185; 09 R197): the reply or the subject leaves its queue. -/
def State.beginFrame (s : State) (p : Port) : State :=
  let q := s.port p
  match q.nextSource, q.replies, q.notices with
  | some .reply, f :: rest, _ =>
    s.setPort p { q with replies := rest, sending := some f.bytes, lastSource := .reply }
  | some .notice, _, x :: rest =>
    s.setPort p { q with notices := rest, sending := some (s.noticeFrame p x).bytes, lastSource := .notice,
                         sequence := q.sequence + 1 }
  | _, _, _ => s

/-- TRANSMIT_BEGIN (08 R184). -/
def execTransmitBegin (p : Port) (s : State) : Host.Outcome State Fault Refusal :=
  .next (if s.mayTransmit p then s.beginFrame p else s)

/-- TRANSMIT_COMPLETION (08 R183): the last byte is sent and the transmitter returns to IDLE. -/
def execTransmitCompletion (p : Port) (s : State) : Host.Outcome State Fault Refusal :=
  .next (s.setPort p { s.port p with sending := none })

end Sys2Proof.Machine
end

