-- ==== Sys2Proof/Machine/StoreEvents.lean ====
section
/-! DEFINITION. The commands of the settings store and the resets (10 R202 to R206). -/

namespace Sys2Proof.Machine

/-- The stored image becomes the copy taken at the save's beginning, with its CRC (10 R202). -/
def Store.completed (st : Store) (v : Save) : Store :=
  { st with stored := v.copy, crc := Config.imageCrc v.copy, intact := true, save := none, imageFailed := false }

/-- The pending save begins, if one is set (10 R203). Like every save it takes the working copy as it stands (10 R202; log entry
41). -/
def State.beginPending (s : State) : State :=
  if s.store.pendingSave then (s.withStore { s.store with pendingSave := false }).beginSave else s

/-- A save completes (10 R202, R203, R205): the store, the fault table, a deferred warm reset, a pending save, in this
order. -/
def State.completeSave (s : State) (v : Save) (order : List Drive) : State :=
  let s1 := (s.withStore (s.store.completed v)).endStore
  let s2 := if s1.store.deferredReset then s1.actWarmReset order else s1
  s2.beginPending

/-- SAVE_COMPLETION (10 R202). -/
def execSaveCompletion (order : List Drive) (s : State) : Host.Outcome State Fault Refusal :=
  .next (match s.store.save with
    | some v => s.event (fun t => t.completeSave v order)
    | none => s)

/-- A warm reset arrives (10 R205): nothing during the hold, deferred while a save is in flight, and at once
otherwise. -/
def State.warmArrival (s : State) (order : List Drive) : State :=
  if s.held then s
  else if s.store.save.isSome then s.withStore { s.store with deferredReset := true }
  else s.actWarmReset order

/-- WARM_RESET (10 R205): the reset line becomes active. A line that is active already does not become active. -/
def execWarmReset (order : List Drive) (s : State) : Host.Outcome State Fault Refusal :=
  .next (if s.resetLine then s else { s with resetLine := true }.event (fun t => t.warmArrival order))

/-- RESET_HOLD_END (10 R205): the reset line comes to rest, and a hold ends. -/
def execResetHoldEnd (order : List Drive) (s : State) : Host.Outcome State Fault Refusal :=
  .next (if s.resetLine then
      { s with resetLine := false }.event (fun t => if t.held then t.endHold order else t)
    else s)

/-- COLD_RESET (10 R204). -/
def execColdReset (present : Vector Bool 6) (imageCut : Bool) (order : List Drive) (s : State) :
    Host.Outcome State Fault Refusal :=
  .next (s.event (fun t => t.actColdReset present imageCut order))

end Sys2Proof.Machine
end

