-- ==== Sys2Proof/Machine/Clock.lean ====
section
/-! DEFINITION. The unit's clock (log entry 2): the event of the unit's own that is due, and the passing of one tenth of a second. -/

namespace Sys2Proof.Machine

/-! ### One tenth of a second -/

/-- One tenth less of a lifetime. -/
def Held.tick (h : Held) : Held := { h with left := h.left - 1 }

/-- One tenth of a run: the run timer of a VENT counts (01 R6). -/
def Run.tick : Run → Run
  | .vent p => .vent { p with timer := p.timer + 1 }
  | .screen p => .screen p

/-- One tenth of a motion record. The times of a run and of a pulse count only while the drive is RUNNING. -/
def Motion.tick (m : Motion) : Motion :=
  let running := m.state == .running
  { m with
    pause := m.pause.map (fun p => { p with left := p.left - 1 }),
    run := if running then m.run.map Run.tick else m.run,
    train := if running then m.train.map (fun t => { t with elapsed := t.elapsed + 1 }) else m.train,
    retryLeft := runDown m.retryLeft,
    coast := m.coast.map (fun c => { c with left := c.left - 1 }),
    pulseGap := runDown m.pulseGap }

/-- One tenth of a demand table entry (02 R37, R43). -/
def Demand.tick (m : Demand) : Demand :=
  { m with panel := m.panel.map Held.tick, climate := m.climate.map Held.tick, cap := m.cap.map Held.tick }

/-- One tenth of a drive. -/
def DriveRec.tick (r : DriveRec) : DriveRec := { r with motion := r.motion.tick, demand := r.demand.tick }

/-- One tenth of the envelope unit (03 R58, R62, R72). -/
def Envelope.tick (e : Envelope) : Envelope :=
  { e with age := if e.observation.isSome then e.age + 1 else e.age,
           stale := runDown e.stale,
           release := ⟨runDown e.release.windward, runDown e.release.leeward⟩ }

/-- One tenth of a save in flight (10 R202). -/
def Store.tick (st : Store) : Store := { st with save := st.save.map (fun v => { v with elapsed := v.elapsed + 1 }) }

/-- One tenth without a byte on the lines (08 R183). -/
def MasterPort.tick (q : MasterPort) : MasterPort := { q with quiet := true }

/-- One tenth of a second passes. While the unit is held in reset only the spacing timer and a save run on (05 R127, 10
R205; log entry 8); a line is quiet after a tenth without a byte, held or not (08 R183; log entry 5). -/
def State.tick (s : State) : State :=
  let s1 := { s with arbiter := { s.arbiter with spacing := runDown s.arbiter.spacing }, store := s.store.tick,
                     ports := ⟨s.ports.climate.tick, s.ports.heat.tick, s.ports.panel.tick⟩ }
  if s.held then s1
  else { s1 with
    drives := s.drives.map DriveRec.tick,
    envelope := s.envelope.tick,
    arbiter := { s1.arbiter with restart := runDown s.arbiter.restart } }

/-! ### What is due -/

/-- The command that serves a request of a kind (08 R174). -/
def serviceOf (p : Port) (kind : Byte) : Option Instr :=
  match kind.toNat with
  | 1 => some (.setDemand p)
  | 2 => some (.releaseDemand p)
  | 3 => some (.jog p)
  | 4 => some (.lockoutOn p)
  | 5 => some (.lockoutOff p)
  | 6 => some (.setCap p)
  | 7 => some (.releaseCap p)
  | 8 => some (.home p)
  | 9 => some (.resetDrive p)
  | 10 => some (.readDrive p)
  | 11 => some (.readEnvelope p)
  | 12 => some (.readFaults p)
  | 13 => some (.ackFaults p)
  | 14 => some (.subscribe p)
  | 15 => some (.unsubscribe p)
  | 16 => some (.startSweep p)
  | 17 => some (.cancelSweep p)
  | 18 => some (.readSweep p)
  | 19 => some (.writeDriveSetup p)
  | 20 => some (.writeGroup p)
  | 21 => some (.writeCompartmentSetup p)
  | 22 => some (.saveSettings p)
  | 23 => some (.readDriveSetup p)
  | 24 => some (.readGroup p)
  | 25 => some (.readCompartmentSetup p)
  | _ => none

/-- The service the request arbiter takes next (08 R173). -/
def State.dueService (s : State) : Option Instr :=
  s.nextServed.bind (fun p => (s.port p).inbound.head?.bind (fun f => serviceOf p f.kind))

/-- The step the request arbiter takes next (07 R155). -/
def State.dueStep (s : State) : Option Instr :=
  if s.nextServed.isSome then none
  else s.nextStepped.map (fun c =>
    match (s.sweep c).kind with
    | .set => .setStep c
    | .release => .releaseStep c
    | .home => .homeStep c
    | .scan => .scanStep c)

/-- An event of one drive that is due. -/
def State.dueOf (s : State) (d : Drive) : Option Instr :=
  let m := (s.drive d).motion
  let x := (s.drive d).demand
  if s.progressDue d then some (.progressPointReached d)
  else if m.plannedDue then some (.plannedExpiry d)
  else if m.pulseDue then some (.pulseEnd d)
  else if m.pauseDue .interPulse then some (.interPulseExpiry d)
  else if m.pauseDue .settle then some (.settleExpiry d)
  else if m.pauseDue .reversal then some (.reversalExpiry d)
  else if m.retryDue then some (.retryWaitExpiry d)
  else if m.stallDue then some (.stall d)
  else if m.coastDue then some (.coastWindowExpiry d)
  else if x.lapseDue .panel then some (.demandLapse d .panel)
  else if x.lapseDue .climate then some (.demandLapse d .climate)
  else if x.capDue then some (.capLapse d)
  else none

/-- An event of the envelope unit or of the restart hold that is due. -/
def State.dueTimer (s : State) : Option Instr :=
  if s.envelope.release.windward = some 0 then some (.releaseTimerExpiry .windward)
  else if s.envelope.release.leeward = some 0 then some (.releaseTimerExpiry .leeward)
  else if s.envelope.stale = some 0 then some .staleTimerExpiry
  else if s.arbiter.restart = some 0 then some .restartHoldExpiry
  else none

/-- An event of a master port that is due: a frame on the line ends, a frame begins, or a receiver that holds bytes of
a frame meets a gap. -/
def State.dueOfPort (s : State) (p : Port) : Option Instr :=
  let q := s.port p
  if q.sending.isSome then some (.transmitCompletion p)
  else if s.mayTransmit p = true ∧ q.nextSource.isSome = true then some (.transmitBegin p)
  else if q.receiver ≠ .hunting then some (.interByteGap (.master p))
  else none

/-- The event of the unit's own that is taken next before any time passes, if one is due. The manual gives no order
between these; the model takes this one (log entry 2). A save in flight ends on command, at the latest after 2 s (10
R202; log entry 6). -/
def State.due (s : State) : Option Instr :=
  let anyTime : Option Instr :=
    if s.canGrant then some .grant
    else if s.arbiter.spacing = some 0 then some .spacingExpiry
    else if s.store.save.any (fun v => decide (Config.maxSave ≤ v.elapsed)) then some (.saveCompletion [])
    else none
  if s.held then anyTime
  else
    (s.envelope.pushes.head?.map (fun p => .envelopePush p.drive))
    <|> s.dueService <|> s.dueStep <|> anyTime <|> allDrives.findSome? s.dueOf <|> s.dueTimer
    <|> allPorts.findSome? s.dueOfPort
    <|> (if s.weatherRx ≠ .hunting then some (.interByteGap .weather) else none)

end Sys2Proof.Machine
end

