-- ==== Sys2Proof/Machine/DemandRequests.lean ====
section
/-! DEFINITION. The requests that place and remove demands, lockouts and caps, HOME and RESET_DRIVE (02 R29 to R43, 04 R102, 06
R137, R138, 08 R177), and the commands that serve them. -/

namespace Sys2Proof.Machine

/-! ### Demands -/

/-- The lifetime in tenths of a SET_DEMAND (02 R30, R31; 08 R177): a lifetime from CLIMATE is disregarded; one from
PANEL is clamped to 1 to 240 minutes. -/
def State.demandLifetime (s : State) (src : TimedSource) (minutes : Option Nat) : Nat :=
  match src, minutes with
  | .panel, some m => clampNat 1 240 m * 600
  | _, _ => s.plainLifetime src

/-- A SET_DEMAND that passes its checks (02 R30, R31). -/
def State.doSetDemand (s : State) (p : Port) (d : Drive) (v : Nat) (minutes : Option Nat) : Answer :=
  match portSource p with
  | some src =>
    doneDrive (s.placeDemand d src { value := clampNat 0 1000 v, left := s.demandLifetime src minutes }) d
  | none => refuse s .notPermitted

/-- SET_DEMAND (02 R29 to R31). -/
def workSetDemand (p : Port) (s : State) (payload : List Byte) : Answer :=
  withPayload s (readSetDemand payload) fun (n, v, minutes) =>
    withDrive s n fun d => withUsed s d (withPresent s d (s.doSetDemand p d v minutes))

/-- SET_DEMAND served for a port (02 R30, R31). -/
def execSetDemand (p : Port) (s : State) : Host.Outcome State Fault Refusal :=
  .next (s.serve p 0x01#8 (notHeat p) (workSetDemand p))

/-- A RELEASE_DEMAND that passes its checks (02 R32). -/
def State.doReleaseDemand (s : State) (p : Port) (d : Drive) : Answer :=
  match portSource p with
  | some src => doneDrive (s.removeDemand d src) d
  | none => refuse s .notPermitted

/-- RELEASE_DEMAND (02 R29, R32). -/
def workReleaseDemand (p : Port) (s : State) (payload : List Byte) : Answer :=
  withPayload s (readOne payload) fun n =>
    withDrive s n fun d => withUsed s d (withPresent s d (s.doReleaseDemand p d))

/-- RELEASE_DEMAND served for a port (02 R32). -/
def execReleaseDemand (p : Port) (s : State) : Host.Outcome State Fault Refusal :=
  .next (s.serve p 0x02#8 (notHeat p) (workReleaseDemand p))

/-- The value a JOG places (02 R33): the effective target moved by jog_step and clamped. -/
def State.jogValue (s : State) (d : Drive) (dir : Direction) : Nat :=
  let t := (s.drive d).demand.target
  match dir with
  | .opening => clampNat 0 1000 (t + s.comp.jogStep)
  | .closing => clampNat 0 1000 (t - s.comp.jogStep)

/-- The direction a number sends (08 R177, R188). -/
def directionOf : Nat → Option Direction
  | 0 => some .opening
  | 1 => some .closing
  | _ => none

/-- A JOG that passes its checks (02 R33). -/
def State.doJog (s : State) (d : Drive) (dir : Direction) : Answer :=
  doneDrive (s.placeDemand d .panel { value := s.jogValue d dir, left := s.plainLifetime .panel }) d

/-- JOG (02 R29, R33; 08 R177): the direction is checked before the drive. -/
def workJog (s : State) (payload : List Byte) : Answer :=
  withPayload s (readTwo payload) fun (n, x) =>
    withPayload s (directionOf x) fun dir =>
      withDrive s n fun d => withUsed s d (withPresent s d (withUnlocked s d (s.doJog d dir)))

/-- JOG served for a port (02 R33). -/
def execJog (p : Port) (s : State) : Host.Outcome State Fault Refusal :=
  .next (s.serve p 0x03#8 (p == .panel) workJog)

/-! ### Lockout -/

/-- The LOCKOUT entry of a drive is placed or removed (02 R34, R35): a change runs a resolution and asks for a save. -/
def State.setLockout (s : State) (d : Drive) (on : Bool) : State :=
  let m := (s.drive d).demand
  if m.lockout = on then s else ((s.withDemand d { m with lockout := on }).resolve d).askSave

/-- LOCKOUT_ON (02 R29, R34). -/
def workLockoutOn (s : State) (payload : List Byte) : Answer :=
  withPayload s (readOne payload) fun n =>
    withDrive s n fun d => withUsed s d (doneDrive (s.setLockout d true) d)

/-- LOCKOUT_ON served for a port (02 R34). -/
def execLockoutOn (p : Port) (s : State) : Host.Outcome State Fault Refusal :=
  .next (s.serve p 0x04#8 (p == .panel) workLockoutOn)

/-- LOCKOUT_OFF (02 R29, R35): accepted on any drive. -/
def workLockoutOff (s : State) (payload : List Byte) : Answer :=
  withPayload s (readOne payload) fun n => withDrive s n fun d => doneDrive (s.setLockout d false) d

/-- LOCKOUT_OFF served for a port (02 R35). -/
def execLockoutOff (p : Port) (s : State) : Host.Outcome State Fault Refusal :=
  .next (s.serve p 0x05#8 (p == .panel) workLockoutOff)

/-! ### Heat caps -/

/-- A group number is 0 to 12, or the request is refused with BAD_VALUE (02 R41, R42; 08 R178). -/
def withGroup (s : State) (g : Nat) (work : Answer) : Answer := if g ≤ 12 then work else refuse s .badValue

/-- Whether a member of a group is capped by a SET_CAP (02 R41). -/
def State.cappable (s : State) (d : Drive) : Bool :=
  (s.setup d).kind == .valve && (s.drive d).motion.state != .absent

/-- The cap of a SET_CAP (02 R41): value clamped to 0 to 1000, lifetime clamped to 600 to 72000, or 9000. -/
def capOf (v : Nat) (life : Option Nat) : Held :=
  { value := clampNat 0 1000 v,
    left := match life with
      | some t => clampNat 600 72000 t
      | none => 9000 }

/-- One member of a SET_CAP, treated in its turn (02 R41). -/
def State.capMember (cap : Held) (s : State) (d : Drive) : State :=
  if s.cappable d then s.clearFresh.placeCap d cap else s

/-- SET_CAP (02 R41). A cap changes no kind and makes no drive ABSENT, so the members capped can be counted at the
start. -/
def workSetCap (s : State) (payload : List Byte) : Answer :=
  withPayload s (readSetCap payload) fun (g, v, life) => withGroup s g <|
    let members := s.groupMembers g
    let n := (members.filter s.cappable).length
    doneWith (members.foldl (State.capMember (capOf v life)) s) (byte1 n ++ byte1 (members.length - n))

/-- SET_CAP served for a port (02 R41). -/
def execSetCap (p : Port) (s : State) : Host.Outcome State Fault Refusal :=
  .next (s.serve p 0x06#8 (p == .heat) workSetCap)

/-- One member of a RELEASE_CAP, treated in its turn (02 R42). -/
def State.uncapMember (s : State) (d : Drive) : State :=
  if (s.drive d).demand.cap.isSome then s.clearFresh.removeCap d else s

/-- RELEASE_CAP (02 R42). -/
def workReleaseCap (s : State) (payload : List Byte) : Answer :=
  withPayload s (readOne payload) fun g => withGroup s g <|
    let members := s.groupMembers g
    doneWith (members.foldl State.uncapMember s)
      (byte1 (members.filter (fun d => (s.drive d).demand.cap.isSome)).length)

/-- RELEASE_CAP served for a port (02 R42). -/
def execReleaseCap (p : Port) (s : State) : Host.Outcome State Fault Refusal :=
  .next (s.serve p 0x07#8 (p == .heat) workReleaseCap)

/-! ### HOME and RESET_DRIVE -/

/-- HOME (04 R102). -/
def workHome (s : State) (payload : List Byte) : Answer :=
  withPayload s (readOne payload) fun n =>
    withDrive s n fun d => withUsed s d (withPresent s d (withUnlocked s d (doneDrive (s.homeDrive d) d)))

/-- HOME served for a port (04 R102). -/
def execHome (p : Port) (s : State) : Host.Outcome State Fault Refusal :=
  .next (s.serve p 0x08#8 (notHeat p) workHome)

/-- The knowledge of a FAULTED drive after a RESET_DRIVE (06 R138). -/
def knowledgeAfterReset (bothOn : Bool) (k : Knowledge) : Knowledge :=
  if bothOn = true ∨ k = .unknown then .unknown else .estimated

/-- A RESET_DRIVE accepted for a FAULTED drive (06 R138), each step in the order listed. -/
def State.resetFaulted (s : State) (d : Drive) : State :=
  let before := (s.drive d).active
  let m := (s.drive d).motion
  let s1 := s.withMotion d { m with retryCount := 0, missedEnd := none }
  let s2 := s1.setKnowledge d (knowledgeAfterReset (s.bothOn d) (s.drive d).book.knowledge)
  if s.bothOn d then
    let s3 := s2.withFaults d { (s2.drive d).faults with bothHeld := true }
    let s4 := s3.becomeFaulted d .bothEnds
    if (s4.drive d).active = before then s4 else s4.markDrive d
  else
    let s3 := (s2.withMotion d { (s2.drive d).motion with cause := none }).setMotionState d .stopped
    s3.resolveAfterReset d

/-- RESET_DRIVE (06 R137): a drive that is not FAULTED is answered DONE and nothing changes. -/
def workResetDrive (s : State) (payload : List Byte) : Answer :=
  withPayload s (readOne payload) fun n =>
    withDrive s n fun d => withPresent s d <|
      if (s.drive d).motion.state = .faulted then doneDrive (s.resetFaulted d) d else doneDrive s d

/-- RESET_DRIVE served for a port (06 R138). -/
def execResetDrive (p : Port) (s : State) : Host.Outcome State Fault Refusal :=
  .next (s.serve p 0x09#8 (notHeat p) workResetDrive)

end Sys2Proof.Machine
end

