-- ==== Sys2Proof/Machine/ReadRequests.lean ====
section
/-! DEFINITION. The requests that read records, ACK_FAULTS, SUBSCRIBE and UNSUBSCRIBE (06 R143, R144, 07 R166, 08 R178, R179, 09
R193, R194), and the commands that serve them. -/

namespace Sys2Proof.Machine

/-! ### Reads -/

/-- READ_DRIVE (08 R178): the drive status record. -/
def workReadDrive (s : State) (payload : List Byte) : Answer :=
  withPayload s (readOne payload) fun n => withDrive s n fun d => doneWith s (s.driveStatus d)

/-- READ_DRIVE served for a port (08 R178). -/
def execReadDrive (p : Port) (s : State) : Host.Outcome State Fault Refusal :=
  .next (s.serve p 0x0A#8 true workReadDrive)

/-- READ_ENVELOPE (03 R78): the envelope record. -/
def workReadEnvelope (s : State) (payload : List Byte) : Answer :=
  withPayload s (readNone payload) fun _ => doneWith s s.envelope.record

/-- READ_ENVELOPE served for a port (03 R78). -/
def execReadEnvelope (p : Port) (s : State) : Host.Outcome State Fault Refusal :=
  .next (s.serve p 0x0B#8 true workReadEnvelope)

/-- READ_FAULTS (06 R144): the fault record. -/
def workReadFaults (s : State) (payload : List Byte) : Answer :=
  withPayload s (readNone payload) fun _ => doneWith s s.faultRecord

/-- READ_FAULTS served for a port (06 R144). -/
def execReadFaults (p : Port) (s : State) : Host.Outcome State Fault Refusal :=
  .next (s.serve p 0x0C#8 true workReadFaults)

/-- READ_SWEEP (07 R166): the context record of context 1 or 2. -/
def workReadSweep (s : State) (payload : List Byte) : Answer :=
  withPayload s (readOne payload) fun n =>
    withPayload s (contextOf n) fun c => doneWith s ((s.sweep c).record c)

/-- READ_SWEEP served for a port (07 R166). -/
def execReadSweep (p : Port) (s : State) : Host.Outcome State Fault Refusal :=
  .next (s.serve p 0x12#8 true workReadSweep)

/-- READ_DRIVE_SETUP (08 R178): the 18 fields of the working setup. -/
def workReadDriveSetup (s : State) (payload : List Byte) : Answer :=
  withPayload s (readOne payload) fun n => withDrive s n fun d => doneWith s (s.setup d).record

/-- READ_DRIVE_SETUP served for a port (08 R178). -/
def execReadDriveSetup (p : Port) (s : State) : Host.Outcome State Fault Refusal :=
  .next (s.serve p 0x17#8 true workReadDriveSetup)

/-- READ_GROUP (08 R178): the label and member list of group 0 to 12. -/
def workReadGroup (s : State) (payload : List Byte) : Answer :=
  withPayload s (readOne payload) fun g =>
    if g ≤ 12 then doneWith s (s.groupRecord g) else refuse s .badValue

/-- READ_GROUP served for a port (08 R178). -/
def execReadGroup (p : Port) (s : State) : Host.Outcome State Fault Refusal :=
  .next (s.serve p 0x18#8 true workReadGroup)

/-- READ_COMPARTMENT_SETUP (08 R178): the 20 fields of the working compartment setup. -/
def workReadCompartment (s : State) (payload : List Byte) : Answer :=
  withPayload s (readNone payload) fun _ => doneWith s s.comp.record

/-- READ_COMPARTMENT_SETUP served for a port (08 R178). -/
def execReadCompartmentSetup (p : Port) (s : State) : Host.Outcome State Fault Refusal :=
  .next (s.serve p 0x19#8 true workReadCompartment)

/-! ### ACK_FAULTS -/

/-- ACK_FAULTS (06 R143). -/
def workAckFaults (s : State) (payload : List Byte) : Answer :=
  withPayload s (readNone payload) fun _ => doneWith s.ackAll []

/-- ACK_FAULTS served for a port (06 R143). -/
def execAckFaults (p : Port) (s : State) : Host.Outcome State Fault Refusal :=
  .next (s.serve p 0x0D#8 (notHeat p) workAckFaults)

/-! ### Subscriptions -/

/-- What a SUBSCRIBE or UNSUBSCRIBE names (08 R179). -/
inductive Topic where
  | drive (d : Drive)
  | group (g : Nat)
  | envelope
  deriving DecidableEq, Repr

/-- The checks of 08 R179: subject 0 is a drive, 1 a group, 2 the envelope. -/
def topicOf (subject number : Nat) : Topic ⊕ Result :=
  match subject with
  | 0 => match driveOf number with
    | some d => .inl (.drive d)
    | none => .inr .badDrive
  | 1 => if number ≤ 12 then .inl (.group number) else .inr .badValue
  | 2 => .inl .envelope
  | _ => .inr .badValue

/-- The payload and the checks of 08 R179. -/
def withTopic (s : State) (payload : List Byte) (work : Topic → Answer) : Answer :=
  withPayload s (readTwo payload) fun (subject, number) =>
    match topicOf subject number with
    | .inl t => work t
    | .inr r => refuse s r

/-- The drives that a topic names: a drive, or the members of a group as they stand (09 R193, R194). -/
def State.topicDrives (s : State) : Topic → List Drive
  | .drive d => [d]
  | .group g => s.groupMembers g
  | .envelope => []

/-- A port's membership of the set of a drive (09 R192). -/
def State.setSub (p : Port) (on : Bool) (s : State) (d : Drive) : State :=
  s.withSubs d ((s.drive d).subs.set p on)

/-- A port joins the set of a drive, and the drive's DRIVE_STATE is marked pending for it (09 R193). -/
def State.subscribeDrive (p : Port) (s : State) (d : Drive) : State :=
  (s.setSub p true d).markInTurn p (.driveState d)

/-- A SUBSCRIBE at the notice unit (09 R193). -/
def State.subscribe (s : State) (p : Port) (t : Topic) : State :=
  match t with
  | .envelope => { s with envSubs := s.envSubs.set p true }.markInTurn p .envelope
  | .drive _ | .group _ => (s.topicDrives t).foldl (State.subscribeDrive p) s

/-- An UNSUBSCRIBE at the notice unit (09 R194): the notice queue stays as it stands. -/
def State.unsubscribe (s : State) (p : Port) (t : Topic) : State :=
  match t with
  | .envelope => { s with envSubs := s.envSubs.set p false }
  | .drive _ | .group _ => (s.topicDrives t).foldl (State.setSub p false) s

/-- SUBSCRIBE (08 R179, 09 R193). -/
def workSubscribe (p : Port) (s : State) (payload : List Byte) : Answer :=
  withTopic s payload fun t => doneWith (s.subscribe p t) []

/-- SUBSCRIBE served for a port (09 R193). -/
def execSubscribe (p : Port) (s : State) : Host.Outcome State Fault Refusal :=
  .next (s.serve p 0x0E#8 true (workSubscribe p))

/-- UNSUBSCRIBE (08 R179, 09 R194). -/
def workUnsubscribe (p : Port) (s : State) (payload : List Byte) : Answer :=
  withTopic s payload fun t => doneWith (s.unsubscribe p t) []

/-- UNSUBSCRIBE served for a port (09 R194). -/
def execUnsubscribe (p : Port) (s : State) : Host.Outcome State Fault Refusal :=
  .next (s.serve p 0x0F#8 true (workUnsubscribe p))

end Sys2Proof.Machine
end

