-- ==== Sys2Proof/Machine/SetupRequests.lean ====
section
/-! DEFINITION. The requests that write the setups and begin a save (01 R3 to R5, 02 R52, R53, 03 R75 to R77, 04 R98, R107, 06
R132, 07 R149, R150, 08 R180 to R182), and the commands that serve them. -/

namespace Sys2Proof.Machine

/-! ### WRITE_DRIVE_SETUP -/

/-- A write that names pulse_on, pulse_off or both, and no other field (04 R98). -/
def stagedWrite (items : List (Nat × Nat)) : Bool := items.all (fun i => i.1 == 13 || i.1 == 14)

/-- Whether a drive's motion state admits a write (08 R180). -/
def State.admitsWrite (s : State) (d : Drive) (items : List (Nat × Nat)) : Bool :=
  match (s.drive d).motion.state with
  | .stopped | .faulted | .locked | .absent => true
  | .running | .pausing => (s.setup d).kind == .valve && stagedWrite items
  | .queued | .retryWait => false

/-- The motion state after a change of kind (04 R107). -/
def stateAfterKind (old new : Kind) (cardPresent lockout : Bool) (m : MotionState) : MotionState :=
  if new = .unused then
    match m with
    | .absent => if lockout then .locked else .stopped
    | _ => m
  else if old = .unused ∧ cardPresent = false then
    match m with
    | .stopped | .locked => .absent
    | _ => m
  else m

/-- The motion record after a change of kind, but for the motion state and the direction (04 R107; log entry 26). -/
def Motion.afterKind (m : Motion) : Motion :=
  { m with homeMarker := false, missedEnd := none, purpose := .move, retryCount := 0, coast := none, travelBase := 0 }

/-- The retry count after a write that lowers retry_limit (06 R132). -/
def retryAfter (old new : Setup) (m : MotionState) (n : Nat) : Nat :=
  if new.retryLimit < old.retryLimit then min n (new.retryLimit + (if m = .faulted then 1 else 0)) else n

/-- The demand table's part of a change of kind (02 R52): the effective target becomes the position. -/
def Demand.afterKind (m : Demand) (position : Nat) : Demand :=
  { m with panel := none, climate := none, cap := none, displacedClimate := none, displacedPanel := none,
           target := position }

/-- The effects of a change of kind on a drive whose position book has taken its new values (02 R52, 04 R107). Entry
into ABSENT is reported (04 R83, 06 R140). -/
def State.kindChanged (s : State) (d : Drive) (old new : Kind) : State :=
  let r := s.drive d
  let state := stateAfterKind old new s.store.present[cardOf d] r.demand.lockout r.motion.state
  let s1 := s.setDrive d { r with motion := r.motion.afterKind, demand := r.demand.afterKind r.book.position }
  let s2 := if r.demand.target = r.book.position then s1 else s1.markDrive d
  ((s2.setDirection d .closing).setMotionState d state).reportAbsent d

/-- An accepted write of a drive setup (01 R4, R5; 02 R52; 03 R77; 04 R107; 06 R132): the record, the position book,
the demand table and motion record, the bounds, the resolution and the decision. A write that takes one of two active
switches away ends BOTH_ENDS (log entry 23); one that fits a switch or gives a kind while both contacts are closed
reports nothing (log entry 40). -/
def State.writeSetup (s : State) (d : Drive) (items : List (Nat × Nat)) : State :=
  let old := s.setup d
  let new := old.after items
  let s1 := s.withSetup d new
  let s2 := s1.setBook d ((s1.drive d).book.afterSetup old new)
  let s3 := if new.kind ≠ old.kind then s2.kindChanged d old.kind new.kind else s2
  let m := (s3.drive d).motion
  let missed := if new.closedSwitch ≠ old.closedSwitch ∨ new.openSwitch ≠ old.openSwitch then none else m.missedEnd
  let s4 := s3.withMotion d { m with missedEnd := missed, retryCount := retryAfter old new m.state m.retryCount }
  let s5 := if (s4.drive d).faults.bothHeld = true ∧ s4.bothOn d = false then s4.endBothHeld d else s4
  let s6 := if new.kind ≠ old.kind ∨ new.facing ≠ old.facing then s5.giveBounds d else s5
  (s6.resolve d).decideMotion d

/-- WRITE_DRIVE_SETUP (08 R180), its checks in the order listed. -/
def workWriteDriveSetup (s : State) (payload : List Byte) : Answer :=
  withPayload s (readWriteSetup payload) fun (n, items) => withDrive s n fun d =>
    if (s.setup d).writeOk items = false then refuse s .badValue
    else if s.store.save.isSome then refuse s .busy
    else if s.admitsWrite d items = false then refuse s .busy
    else doneWith (s.writeSetup d items) []

/-- WRITE_DRIVE_SETUP served for a port (08 R180). -/
def execWriteDriveSetup (p : Port) (s : State) : Host.Outcome State Fault Refusal :=
  .next (s.serve p 0x13#8 (notHeat p) workWriteDriveSetup)

/-! ### WRITE_GROUP -/

/-- A printable character, from space to tilde (07 R147). -/
def printable (b : Byte) : Bool := decide (0x20 ≤ b.toNat) && decide (b.toNat ≤ 0x7E)

/-- Whether an active sweep context names a group (07 R149). -/
def State.groupHeld (s : State) (g : Nat) : Bool :=
  [Context.one, Context.two].any (fun c => (s.sweep c).state != .idle && (s.sweep c).group == g)

/-- A group takes a label and a member list (07 R150). -/
def State.writeGroup (s : State) (g : Nat) (x : Group) : State :=
  { s with settings := { s.settings with groups := s.settings.groups.setIfInBounds (g - 1) x } }

/-- The drives that numbers name, if each is 1 to 24 (07 R149). -/
def drivesOf : List Nat → Option (List Drive)
  | [] => some []
  | n :: rest =>
    match driveOf n, drivesOf rest with
    | some d, some ds => some (d :: ds)
    | _, _ => none

/-- WRITE_GROUP (07 R149, R150), its checks in the order listed. -/
def workWriteGroup (s : State) (payload : List Byte) : Answer :=
  withPayload s (readWriteGroup payload) fun (g, label, numbers) =>
    if g = 0 ∨ 12 < g then refuse s .badValue
    else if 8 < label.length ∨ label.all printable = false then refuse s .badValue
    else withPayload s (drivesOf numbers) fun members =>
      if ¬ members.Nodup then refuse s .badValue
      else if s.store.save.isSome then refuse s .busy
      else if s.groupHeld g then refuse s .busy
      else doneWith (s.writeGroup g { label := label, members := members }) []

/-- WRITE_GROUP served for a port (07 R150). -/
def execWriteGroup (p : Port) (s : State) : Host.Outcome State Fault Refusal :=
  .next (s.serve p 0x14#8 (notHeat p) workWriteGroup)

/-! ### WRITE_COMPARTMENT_SETUP -/

/-- Whether a drive loses its REFERENCED knowledge to a lowered rereference_distance (01 R22). -/
def State.overTravelled (s : State) (limit : Nat) (d : Drive) : Bool :=
  (s.drive d).book.knowledge == .referenced && decide (limit < (s.drive d).book.travel)

/-- A write that lowers rereference_distance (01 R22): the drives that have travelled further become ESTIMATED, and
those of them that are QUEUED, and are so still in their turn, make their decision again (04 R88), in a free order (log
entries 12, 24). -/
def State.lowerDistance (s : State) (limit : Nat) : State :=
  let hit := allDrives.filter (s.overTravelled limit)
  let waiting := hit.filter (fun d => (s.drive d).motion.state == .queued)
  let s1 := hit.foldl State.lowerKnowledge s
  let s2 := (arrange s1.freeCount waiting).foldl State.bookChanged s1
  { s2 with freeCount := s2.freeCount + 24 }

/-- An accepted write of the compartment setup (08 R181): all named fields together, then the envelope unit (03 R76),
the position books (01 R22) and the start arbiter (05 R123): a raised slot_limit lets a grant follow, after the QUEUED
drives that lost their knowledge have decided again (log entry 45). -/
def State.writeCompartment (s : State) (items : List (Nat × Int)) : State :=
  let old := s.comp
  let new := old.after items
  let s1 := { s with settings := { s.settings with compartment := new } }
  let s2 := s1.changeEnvelope (s1.envelope.rewrite old new)
  let s3 := if new.rereferenceDistance < old.rereferenceDistance then s2.lowerDistance new.rereferenceDistance else s2
  s3.grantIf (decide (old.slotLimit < new.slotLimit))

/-- WRITE_COMPARTMENT_SETUP (03 R75, 05 R123, 08 R181), its checks in the order listed. -/
def workWriteCompartment (s : State) (payload : List Byte) : Answer :=
  withPayload s (readWriteCompartment payload) fun items =>
    if s.comp.writeOk items = false then refuse s .badValue
    else if s.store.save.isSome then refuse s .busy
    else if items.any (fun i => i.1 == 1 && decide (i.2 < s.arbiter.holders.length)) then refuse s .busy
    else doneWith (s.writeCompartment items) []

/-- WRITE_COMPARTMENT_SETUP served for a port (08 R181). -/
def execWriteCompartmentSetup (p : Port) (s : State) : Host.Outcome State Fault Refusal :=
  .next (s.serve p 0x15#8 (notHeat p) workWriteCompartment)

/-! ### SAVE_SETTINGS -/

/-- SAVE_SETTINGS (08 R182, 10 R202). -/
def workSaveSettings (s : State) (payload : List Byte) : Answer :=
  withPayload s (readNone payload) fun _ =>
    if s.store.save.isSome then refuse s .busy else doneWith s.beginSave []

/-- SAVE_SETTINGS served for a port (08 R182). -/
def execSaveSettings (p : Port) (s : State) : Host.Outcome State Fault Refusal :=
  .next (s.serve p 0x16#8 (notHeat p) workSaveSettings)

end Sys2Proof.Machine
end

