-- ==== Sys2Proof/Machine/SweepRequests.lean ====
section
/-! DEFINITION. START_SWEEP and CANCEL_SWEEP (07 R153, R154, R164) with the commands that serve them, and the commands that take
a step of a sweep (07 R155 to R159). -/

namespace Sys2Proof.Machine

/-! ### START_SWEEP and CANCEL_SWEEP -/

/-- The condition that a context holds for a sweep that is no SCAN: free (log entry 33). -/
def unusedCondition (sent : Nat) : Condition := (Condition.ofCode (Config.unusedPart 1 sent % 4)).getD .offTarget

/-- The fresh record of a sweep that passes its checks (07 R153, R154). A tolerance sent with another condition than
OFF_TARGET is held as 0, whatever the kind; what is held for a value of a sweep that is no SET, and for a condition and a
tolerance with OFF_TARGET of one that is no SCAN, is free (log entry 33). -/
def newSweep (p : Port) (q : StartSweep) (k : SweepKind) (o : SweepOrder) (c : Condition) (members : List Drive) :
    SweepCtx :=
  { owner := p, kind := k, group := q.group, members := members, order := o,
    value := if k = .set then clampNat 0 1000 q.value else min 1000 (Config.unusedPart 0 q.value),
    wait := (k == .set || k == .home) && q.wait,
    condition := if k = .scan then c else unusedCondition q.condition,
    tolerance := if q.condition ≠ Condition.offTarget.code then 0
      else if k = .scan then q.tolerance
      else min 1000 (Config.unusedPart 2 q.tolerance),
    nextIndex := firstPlace o members.length }

/-- The kind, the order and, for SCAN, the condition are among those defined (07 R153). The condition of another kind
is disregarded. -/
def sweepNames (q : StartSweep) : Option (SweepKind × SweepOrder × Condition) :=
  match SweepKind.ofCode q.kind, SweepOrder.ofCode q.order with
  | some .scan, some o => (Condition.ofCode q.condition).map (fun c => (.scan, o, c))
  | some k, some o => some (k, o, .offTarget)
  | _, _ => none

/-- START_SWEEP (07 R153, R154), its checks in the order listed. -/
def workStartSweep (p : Port) (s : State) (payload : List Byte) : Answer :=
  withPayload s (readStartSweep payload) fun q =>
    if p = .heat ∧ q.kind ≠ SweepKind.scan.code then refuse s .notPermitted
    else if 12 < q.group then refuse s .badValue
    else withPayload s (sweepNames q) fun (k, o, c) =>
      if k = .scan ∧ c = .offTarget ∧ 1000 < q.tolerance then refuse s .badValue
      else match s.contextToTake with
        | none => refuse s .busy
        | some ctx =>
          let members := s.groupMembers q.group
          doneWith (s.startSweep ctx (newSweep p q k o c members)) (byte1 (contextNumber ctx) ++ byte1 members.length)

/-- START_SWEEP served for a port (07 R154). -/
def execStartSweep (p : Port) (s : State) : Host.Outcome State Fault Refusal :=
  .next (s.serve p 0x10#8 true (workStartSweep p))

/-- CANCEL_SWEEP (07 R164). -/
def workCancelSweep (p : Port) (s : State) (payload : List Byte) : Answer :=
  withPayload s (readOne payload) fun n => withPayload s (contextOf n) fun c =>
    if (s.sweep c).state = .idle then doneWith s []
    else if (s.sweep c).owner ≠ p then refuse s .notPermitted
    else doneWith (s.cancelSweep c) []

/-- CANCEL_SWEEP served for a port (07 R164). -/
def execCancelSweep (p : Port) (s : State) : Host.Outcome State Fault Refusal :=
  .next (s.serve p 0x11#8 true (workCancelSweep p))

/-! ### Steps -/

/-- A step of a context, if it is the one to be taken and its sweep is of a kind; otherwise nothing happens (07 R155;
log entry 1). While the unit is held in reset no step is taken (10 R205). -/
def State.sweepStep (s : State) (c : Context) (k : SweepKind) (effect : State → State) : State :=
  if s.held = false ∧ s.nextServed = none ∧ s.nextStepped = some c ∧ (s.sweep c).kind = k then s.event effect else s

/-- A SET step (07 R157). -/
def execSetStep (c : Context) (s : State) : Host.Outcome State Fault Refusal :=
  .next (s.sweepStep c .set (fun t => t.takeStep c (fun u d => u.stepDemand d (t.sweep c).owner (t.sweep c).value)))

/-- A RELEASE step (07 R157). -/
def execReleaseStep (c : Context) (s : State) : Host.Outcome State Fault Refusal :=
  .next (s.sweepStep c .release (fun t => t.takeStep c (fun u d => u.stepRelease d (t.sweep c).owner)))

/-- A HOME step (07 R158). -/
def execHomeStep (c : Context) (s : State) : Host.Outcome State Fault Refusal :=
  .next (s.sweepStep c .home (fun t => t.takeStep c State.homeDrive))

/-- A SCAN step (07 R159). -/
def execScanStep (c : Context) (s : State) : Host.Outcome State Fault Refusal :=
  .next (s.sweepStep c .scan (fun t => t.takeScan c))

end Sys2Proof.Machine
end

