-- ==== Sys2Proof/Machine/Dispatch.lean ====
section
/-! DEFINITION. The dispatch of the commands: one arm for each row of spec/opcode_table.json, in the table's order. -/

namespace Sys2Proof.Machine

/-- The effect of a command on everything but the queue of waiting commands. -/
def exec (i : Instr) (s : State) : Host.Outcome State Fault Refusal :=
  match i with
  | .requestArrival p kind tag payload => Sys2Proof.Machine.execRequestArrival p kind tag payload s
  | .interByteGap l => Sys2Proof.Machine.execInterByteGap l s
  | .observation o => Sys2Proof.Machine.execObservation o s
  | .setDemand p => Sys2Proof.Machine.execSetDemand p s
  | .releaseDemand p => Sys2Proof.Machine.execReleaseDemand p s
  | .jog p => Sys2Proof.Machine.execJog p s
  | .lockoutOn p => Sys2Proof.Machine.execLockoutOn p s
  | .lockoutOff p => Sys2Proof.Machine.execLockoutOff p s
  | .setCap p => Sys2Proof.Machine.execSetCap p s
  | .releaseCap p => Sys2Proof.Machine.execReleaseCap p s
  | .home p => Sys2Proof.Machine.execHome p s
  | .resetDrive p => Sys2Proof.Machine.execResetDrive p s
  | .readDrive p => Sys2Proof.Machine.execReadDrive p s
  | .readEnvelope p => Sys2Proof.Machine.execReadEnvelope p s
  | .readFaults p => Sys2Proof.Machine.execReadFaults p s
  | .ackFaults p => Sys2Proof.Machine.execAckFaults p s
  | .subscribe p => Sys2Proof.Machine.execSubscribe p s
  | .unsubscribe p => Sys2Proof.Machine.execUnsubscribe p s
  | .startSweep p => Sys2Proof.Machine.execStartSweep p s
  | .cancelSweep p => Sys2Proof.Machine.execCancelSweep p s
  | .readSweep p => Sys2Proof.Machine.execReadSweep p s
  | .writeDriveSetup p => Sys2Proof.Machine.execWriteDriveSetup p s
  | .writeGroup p => Sys2Proof.Machine.execWriteGroup p s
  | .writeCompartmentSetup p => Sys2Proof.Machine.execWriteCompartmentSetup p s
  | .saveSettings p => Sys2Proof.Machine.execSaveSettings p s
  | .readDriveSetup p => Sys2Proof.Machine.execReadDriveSetup p s
  | .readGroup p => Sys2Proof.Machine.execReadGroup p s
  | .readCompartmentSetup p => Sys2Proof.Machine.execReadCompartmentSetup p s
  | .setStep c => Sys2Proof.Machine.execSetStep c s
  | .releaseStep c => Sys2Proof.Machine.execReleaseStep c s
  | .homeStep c => Sys2Proof.Machine.execHomeStep c s
  | .scanStep c => Sys2Proof.Machine.execScanStep c s
  | .demandLapse d src => Sys2Proof.Machine.execDemandLapse d src s
  | .capLapse d => Sys2Proof.Machine.execCapLapse d s
  | .envelopePush d => Sys2Proof.Machine.execEnvelopePush d s
  | .releaseTimerExpiry side => Sys2Proof.Machine.execReleaseTimerExpiry side s
  | .staleTimerExpiry => Sys2Proof.Machine.execStaleTimerExpiry s
  | .grant => Sys2Proof.Machine.execGrant s
  | .spacingExpiry => Sys2Proof.Machine.execSpacingExpiry s
  | .restartHoldExpiry => Sys2Proof.Machine.execRestartHoldExpiry s
  | .plannedExpiry d => Sys2Proof.Machine.execPlannedExpiry d s
  | .pulseEnd d => Sys2Proof.Machine.execPulseEnd d s
  | .interPulseExpiry d => Sys2Proof.Machine.execInterPulseExpiry d s
  | .settleExpiry d => Sys2Proof.Machine.execSettleExpiry d s
  | .reversalExpiry d => Sys2Proof.Machine.execReversalExpiry d s
  | .retryWaitExpiry d => Sys2Proof.Machine.execRetryWaitExpiry d s
  | .stall d => Sys2Proof.Machine.execStall d s
  | .coastWindowExpiry d => Sys2Proof.Machine.execCoastWindowExpiry d s
  | .encoderPulse d => Sys2Proof.Machine.execEncoderPulse d s
  | .switchActive d e => Sys2Proof.Machine.execSwitchActive d e s
  | .switchInactive d e => Sys2Proof.Machine.execSwitchInactive d e s
  | .tripContactActive d => Sys2Proof.Machine.execTripContactActive d s
  | .tripContactInactive d => Sys2Proof.Machine.execTripContactInactive d s
  | .transmitBegin p => Sys2Proof.Machine.execTransmitBegin p s
  | .transmitCompletion p => Sys2Proof.Machine.execTransmitCompletion p s
  | .saveCompletion order => Sys2Proof.Machine.execSaveCompletion order s
  | .warmReset order => Sys2Proof.Machine.execWarmReset order s
  | .resetHoldEnd order => Sys2Proof.Machine.execResetHoldEnd order s
  | .coldReset present imageCut order => Sys2Proof.Machine.execColdReset present imageCut order s
  | .byteArrival l b => Sys2Proof.Machine.execByteArrival l b s
  | .progressPointReached d => Sys2Proof.Machine.execProgressPointReached d s

end Sys2Proof.Machine
end

