-- ==== Sys2Proof/Machine/Step.lean ====
section
/-! DEFINITION. One step of the unit: the command at the front of the queue, or what the unit does of its own. -/

namespace Sys2Proof.Machine

/-- What the unit does with no command waiting: an event of its own that is due, or one tenth of a second (log entry
2). -/
def State.idle (s : State) : Host.Outcome State Fault Refusal :=
  match s.due with
  | some c => exec c s
  | none => .next s.tick

/-- One step: the command at the front of the queue is taken and run with the rest of the queue. -/
def step (s : State) : Host.Outcome State Fault Refusal :=
  match s.pending with
  | c :: rest => exec c { s with pending := rest }
  | [] => s.idle

/-- `s` with the command a table word spells at the front of its queue; `s` where the word spells none. -/
def State.withFetchWord (s : State) (nbits w : Nat) : State :=
  match decodeTableWord nbits w with
  | some c => { s with pending := c :: s.pending }
  | none => s

end Sys2Proof.Machine
end

