-- ==== Sys2Proof/Safety.lean ====
section
/-! DEFINITION. What the manual promises of every state of the unit: the bounds of its queues (08 R170, 09 R195), the slot limit
(05 R113), and the outputs (04 R82). -/

namespace Sys2Proof.Machine

/-- The queues of a master port keep their bounds: 0 to 4 requests, 0 to 4 replies (08 R170), and no subject pending
twice, so that there are never more than 52 (09 R195). -/
def MasterPort.QueuesOk (q : MasterPort) : Prop :=
  q.inbound.length ≤ Config.queuePlaces ∧ q.replies.length ≤ Config.queuePlaces ∧ q.notices.Nodup

/-- The queues of the three master ports keep their bounds. -/
def State.QueuesOk (s : State) : Prop := ∀ p : Port, (s.port p).QueuesOk

/-- The number of drives holding run slots does not exceed the slot limit (05 R113). -/
def State.SlotsOk (s : State) : Prop := s.arbiter.holders.length ≤ s.comp.slotLimit

/-- The outputs of a state are safe: the two of a drive are never energised together, and those of a LOCKED drive never
(04 R82). -/
def State.OutputsOk (s : State) : Prop :=
  ∀ d : Drive, ¬ (s.outputOn d .opening = true ∧ s.outputOn d .closing = true) ∧
    ((s.drive d).motion.state = .locked → ∀ dir : Direction, s.outputOn d dir = false)

/-- The results that the sweep contexts hold bear completion orders already given, and different ones, so that the order
says which sweep ended first (07 R151, R154). -/
structure Sweeps.Ordered (w : Sweeps) : Prop where
  given : ∀ c n, (w.get c).completion = some n → n < w.nextCompletion
  differ : ∀ n, w.one.completion = some n → w.two.completion ≠ some n

/-- What holds of every state that the unit reaches from one where it holds; the summary is that of the latched pairs (06
R141), and a stored image that passes its check bears its CRC (10 R201). -/
structure State.Safe (s : State) : Prop where
  queues : s.QueuesOk
  slots : s.SlotsOk
  summary : s.faults.summary = summaryOf s.latchedPairs
  sweeps : s.sweeps.Ordered
  image : s.store.intact = true → s.store.crc = Config.imageCrc s.store.stored

/-- A state between two events: no grant and no marking of an event is in hand, and no sweep waits for a member that is
at rest (07 R160, R161: the wait ends with the event that brings the member to rest). -/
structure State.Settled (s : State) : Prop where
  granted : s.granted = false
  fresh : ∀ p, (s.port p).fresh = 0
  waits : ∀ c, s.waitOver c = false

/-! ### The demand table -/

/-- The governing value where it is a number (02 R44, R45): that of the highest entry present, the FALLBACK entry below
the others. LOCKOUT and HOLD give none. -/
def Demand.governingValue (m : Demand) (fallback : Option Nat) : Option Nat :=
  if m.lockout then none
  else match m.panel, m.climate with
    | some h, _ => some h.value
    | none, some h => some h.value
    | none, none => fallback

/-- What a resolution leaves true of a demand table entry until the next one (02 R44 to R47). -/
structure Demand.Resolved (m : Demand) (fallback : Option Nat) : Prop where
  governing : m.governing =
    (if m.lockout then .lockout else if m.panel.isSome then .panel else if m.climate.isSome then .climate else .fallback)
  floor : m.floor = m.envFloor
  ceiling : m.ceiling = (match m.cap with
    | none => m.envCeiling
    | some c => min m.envCeiling c.value)
  conflict : m.conflict = decide (m.ceiling < m.floor)
  within : m.lockout = false → m.floor ≤ m.ceiling → m.floor ≤ m.target ∧ m.target ≤ m.ceiling
  floorWins : m.lockout = false → m.ceiling < m.floor → m.target = m.floor
  value : m.floor ≤ m.ceiling → ∀ v, m.governingValue fallback = some v → m.target = clampNat m.floor m.ceiling v

/-- Every drive's demand table entry stands as its last resolution left it. -/
def State.Resolved (s : State) : Prop := ∀ d, (s.drive d).demand.Resolved (s.setup d).fallback

/-- A resolution of a drive at `position`, whose effective target was `before` (02 R44 to R48): as `Resolved` says; under
LOCKOUT the target is the position, and under HOLD the target that was held, within the bounds. -/
structure Demand.ResolvedFrom (m : Demand) (fallback : Option Nat) (position before : Nat) : Prop where
  resolved : m.Resolved fallback
  locked : m.lockout = true → m.target = position
  hold : m.lockout = false → m.governingValue fallback = none → m.floor ≤ m.ceiling →
    m.target = clampNat m.floor m.ceiling before

/-- `new` is `old` after a resolution at a time when a drive stood at `position`, but for its entries and its envelope
bounds, which are those of `new` (02 R44 to R48, R51): a displaced source has the new governing source in its record,
and the other displacement record is as it was. -/
structure Demand.ResolvesTo (old new : Demand) (fallback : Option Nat) (position : Nat) : Prop where
  result : new.ResolvedFrom fallback position old.target
  climate : new.displacedClimate =
    if old.governing = .climate ∧ new.climate.isSome = true ∧ (new.governing = .panel ∨ new.governing = .lockout)
    then some new.governing else old.displacedClimate
  panel : new.displacedPanel =
    if old.governing = .panel ∧ new.panel.isSome = true ∧ new.governing = .lockout
    then some .lockout else old.displacedPanel

/-- The entries and the envelope bounds of two demand table entries are the same. -/
structure Demand.SameEntries (a b : Demand) : Prop where
  lockout : b.lockout = a.lockout
  panel : b.panel = a.panel
  climate : b.climate = a.climate
  cap : b.cap = a.cap
  envFloor : b.envFloor = a.envFloor
  envCeiling : b.envCeiling = a.envCeiling

/-! ### Ranges -/

/-- The working or stored settings stand within the ranges that bounds and positions depend on (01 section 1.2, 08
R181). -/
structure Settings.InRange (x : Settings) : Prop where
  fallback : ∀ (d : Drive) v, x.setups[d].fallback = some v → v ≤ 1000
  rain : x.compartment.rainCeiling ≤ 1000
  snow : x.compartment.snowValveFloor ≤ 1000
  frost : x.compartment.frostMaxFloor ≤ 1000
  stale : x.compartment.staleVentCeiling ≤ 1000
  frostOrder : x.compartment.frostFull < x.compartment.frostStart

/-- What the unit holds for a drive of setup `u` stands in its ranges: position, count and accumulated travel (01 R2), the
effective target, the values and the bounds of the demand table (02 R28), and the ends of the plan in hand. Only a VALVE
carries a heat cap (02 R41, R52). -/
structure DriveRec.InRange (u : Setup) (r : DriveRec) : Prop where
  position : r.book.position ≤ 1000
  travel : r.book.travel ≤ 65535
  count : if u.kind = .screen then r.book.count ≤ u.pps else r.book.count = 0
  target : r.demand.target ≤ 1000
  envFloor : r.demand.envFloor ≤ 1000
  envCeiling : r.demand.envCeiling ≤ 1000
  panel : ∀ h, r.demand.panel = some h → h.value ≤ 1000
  climate : ∀ h, r.demand.climate = some h → h.value ≤ 1000
  cap : ∀ h, r.demand.cap = some h → h.value ≤ 1000
  capKind : r.demand.cap.isSome = true → u.kind = .valve
  vent : ∀ p, r.motion.run = some (.vent p) → p.start ≤ 1000 ∧ p.aim ≤ 1000
  screen : ∀ p, r.motion.run = some (.screen p) → p.aim ≤ 1000
  train : ∀ t, r.motion.train = some t → t.start ≤ 1000 ∧ t.aim ≤ 1000

/-- The unit stands in its ranges: the settings in use, stored and being stored, every drive, and the envelope unit's
ceilings, frost floor and pushes (03 R56). -/
structure State.InRange (s : State) : Prop where
  settings : s.settings.InRange
  stored : s.store.stored.settings.InRange
  saving : ∀ v, s.store.save = some v → v.copy.settings.InRange
  drives : ∀ d, (s.drive d).InRange (s.setup d)
  held : ∀ x, s.envelope.held.get x ≤ 1000
  computed : ∀ x v, s.envelope.computed.get x = some v → v ≤ 1000
  frostFloor : s.envelope.frostFloor ≤ 1000
  pushes : ∀ p, p ∈ s.envelope.pushes → p.floor ≤ 1000 ∧ p.ceiling ≤ 1000

/-! ### The start queue and lockouts -/

/-- The drives that have an entry in the start queue (05 R113). -/
def State.waiting (s : State) : List Drive := s.arbiter.queue.map Entry.drive

/-- The start queue holds one entry for each QUEUED drive and no other, in its order, never a VALVE's, and no two entries share
an arrival (04 R87, 05 R113, R117); the slot holders are the VENTs and SCREENs that are RUNNING, each once; and a train is in hand only for a VALVE in RUNNING
or in the pause between two pulses (04 R81, R97). -/
structure State.QueueOk (s : State) : Prop where
  once : s.waiting.Nodup
  queued : ∀ d, d ∈ s.waiting ↔ (s.drive d).motion.state = .queued
  ordered : s.arbiter.queue.Pairwise (fun a b => a.before b = true)
  arrivals : ∀ e, e ∈ s.arbiter.queue → e.arrival < s.arbiter.nextArrival
  distinct : (s.arbiter.queue.map Entry.arrival).Nodup
  kinds : ∀ d, d ∈ s.waiting → (s.setup d).kind = .vent ∨ (s.setup d).kind = .screen
  slotsOnce : s.arbiter.holders.Nodup
  slots : ∀ d, d ∈ s.arbiter.holders ↔ (s.drive d).motion.state = .running ∧ (s.setup d).kind ≠ .valve
  train : ∀ d, (s.drive d).motion.train.isSome = true → (s.setup d).kind = .valve ∧
    ((s.drive d).motion.state = .running ∨
      (s.drive d).motion.state = .pausing ∧ ∃ n, (s.drive d).motion.pause = some { kind := .interPulse, left := n })

/-- A drive under lockout is LOCKED, FAULTED or ABSENT, and no other drive is LOCKED (02 R48, 04 R82, R83, R103). -/
def State.LockoutOk (s : State) : Prop :=
  ∀ d, ((s.drive d).demand.lockout = true →
      (s.drive d).motion.state = .locked ∨ (s.drive d).motion.state = .faulted ∨ (s.drive d).motion.state = .absent) ∧
    ((s.drive d).motion.state = .locked → (s.drive d).demand.lockout = true)

/-! ### What a command leaves unchanged -/

/-- Outside the drives of `X` nothing of a drive has changed but where a grant may have reached it: a drive that waited
in the start queue. The demand table has changed at drives of `Y` alone. The settings, the envelope unit, the restart
hold, the compartment's fault kinds, the subscriptions, the inputs of the channels and the lines are as they were; and
no pending notice is lost. -/
structure DrivesOnly (X Y : Drive → Prop) (s t : State) : Prop where
  settings : t.settings = s.settings
  envelope : t.envelope = s.envelope
  weatherRx : t.weatherRx = s.weatherRx
  envSubs : t.envSubs = s.envSubs
  held : t.held = s.held
  resetLine : t.resetLine = s.resetLine
  pending : t.pending = s.pending
  restart : t.arbiter.restart = s.arbiter.restart
  faults : t.faults = { s.faults with summary := t.faults.summary }
  receiver : ∀ p, (t.port p).receiver = (s.port p).receiver
  sending : ∀ p, (t.port p).sending = (s.port p).sending
  lastSource : ∀ p, (t.port p).lastSource = (s.port p).lastSource
  sequence : ∀ p, (t.port p).sequence = (s.port p).sequence
  quiet : ∀ p, (t.port p).quiet = (s.port p).quiet
  still : ∀ p x, x ∈ (s.port p).notices → x ∈ (t.port p).notices
  pins : ∀ d, (t.drive d).pins = (s.drive d).pins
  subs : ∀ d, (t.drive d).subs = (s.drive d).subs
  waiting : ∀ d, d ∈ t.waiting → d ∈ s.waiting ∨ X d
  others : ∀ d, ¬ X d → d ∉ s.waiting → t.drive d = s.drive d
  demand : ∀ d, ¬ Y d → (t.drive d).demand = (s.drive d).demand

/-- The request arbiter's pointer, the inbound queues and the reply queues are as they were. -/
def QueuesSame (s t : State) : Prop :=
  t.turn = s.turn ∧ ∀ p, (t.port p).inbound = (s.port p).inbound ∧ (t.port p).replies = (s.port p).replies

/-- The sweep engine is as it was, but for a sweep that waited: its wait may have ended, and the sweep with it. -/
def SweepsSame (s t : State) : Prop :=
  t.sweeps.pointer = s.sweeps.pointer ∧ (∀ c, (s.sweep c).state ≠ .waiting → t.sweep c = s.sweep c) ∧
  s.sweeps.nextCompletion ≤ t.sweeps.nextCompletion ∧
  ((∀ c, (s.sweep c).state ≠ .waiting) → t.sweeps.nextCompletion = s.sweeps.nextCompletion)

/-- A command acts on the drives of `X`, on the demand table of those of `Y`, and on what a grant reaches: nothing else of
the unit changes but notice queues, the summary, the start arbiter and waits that end. -/
structure ActsOn (X Y : Drive → Prop) (s t : State) : Prop where
  drives : DrivesOnly X Y s t
  sweeps : SweepsSame s t
  store : t.store = s.store

/-- The demand table entry of `d` has taken the entries and envelope bounds of `entries` and been resolved (02 R44 to
R51). DISPLACED is pending on the port of a source that has been displaced while its entry is present: CLIMATE by PANEL or
LOCKOUT, PANEL by LOCKOUT (02 R51, 09 R196). -/
def Redemanded (d : Drive) (entries : Demand) (s t : State) : Prop :=
  entries.SameEntries (t.drive d).demand ∧
  (s.drive d).demand.ResolvesTo (t.drive d).demand (s.setup d).fallback (s.livePosition d) ∧
  ((s.drive d).demand.governing = .climate → entries.climate.isSome = true →
    (t.drive d).demand.governing = .panel ∨ (t.drive d).demand.governing = .lockout →
    Subject.displaced d ∈ (t.port .climate).notices) ∧
  ((s.drive d).demand.governing = .panel → entries.panel.isSome = true → (t.drive d).demand.governing = .lockout →
    Subject.displaced d ∈ (t.port .panel).notices)

/-! ### Grants and classes -/

/-- No grant can follow now: the restart hold or the spacing timer runs, or no slot is free (05 R118). -/
def State.NoGrant (s : State) : Prop :=
  s.arbiter.restart.isSome = true ∨ s.arbiter.spacing.isSome = true ∨ s.comp.slotLimit ≤ s.arbiter.holders.length

/-- Whether a drive stands outside its bounds on the side from which a run in a direction would bring it back (05 R115). -/
def State.outOfBounds (s : State) (d : Drive) : Direction → Bool
  | .closing => decide ((s.drive d).demand.ceiling < (s.drive d).book.position)
  | .opening => decide ((s.drive d).book.position < (s.drive d).demand.floor)

/-- The entry of a drive in the start queue stays with its direction and arrival, raised to PROTECTIVE where `u` finds the
drive outside its bounds (05 R116). -/
def EntryKept (d : Drive) (u t : State) : Prop :=
  ∀ e ∈ u.arbiter.queue, e.drive = d →
    { e with protective := e.protective || u.outOfBounds d e.direction } ∈ t.arbiter.queue

/-- A new entry of a drive stands in the start queue, with the class that `u` gives it and the next arrival (05 R114,
R115). -/
def EntryPlaced (d : Drive) (dir : Direction) (u t : State) : Prop :=
  { drive := d, direction := dir, protective := u.outOfBounds d dir, arrival := u.arbiter.nextArrival } ∈
    t.arbiter.queue ∧ t.arbiter.nextArrival = u.arbiter.nextArrival + 1

/-- DRIVE_STATE of a drive is pending for each of its subscribers (04 R108). -/
def Notified (d : Drive) (s t : State) : Prop :=
  ∀ p, (s.drive d).subs.get p = true → Subject.driveState d ∈ (t.port p).notices

/-- A change of the lockout set has asked the store for a save (10 R203): pending behind a save in flight, or begun with
the settings and the lockout set as they stand (10 R202). -/
def AskedSave (s t : State) : Prop :=
  t.store = if s.store.save.isSome then { s.store with pendingSave := true }
    else { s.store with save := some { copy := { settings := s.settings, lockouts := t.lockoutSet }, elapsed := 0 } }

/-! ### The ends of runs -/

/-- A position book whose drive has come to a position over a distance (01 R22). -/
def Book.travelled (b : Book) (limit position distance : Nat) : Book :=
  let travel := min 65535 (b.travel + distance)
  { b with position := position, travel := travel,
           knowledge := if limit < travel ∧ b.knowledge = .referenced then .estimated else b.knowledge }

/-- The run or train of a drive has ended with its output off before its aim: the early-stop rule of its kind has set the
position and the travel (01 R9, R12, R22; a SCREEN keeps its count, R14), the slot is free (05 R120), and DRIVE_STATE is
due (04 R97, R108). -/
structure OutputDropped (d : Drive) (s t : State) : Prop where
  vent : ∀ v, (s.drive d).motion.state = .running → (s.drive d).motion.run = some (.vent v) →
    (t.drive d).book = (s.drive d).book.travelled s.comp.rereferenceDistance (s.livePosition d)
      (dist (s.livePosition d) (s.drive d).motion.travelBase)
  screen : ∀ v, (s.drive d).motion.state = .running → (s.drive d).motion.run = some (.screen v) →
    (t.drive d).book = (s.drive d).book ∧
    (t.drive d).motion.coast = some { left := 10, direction := (s.drive d).motion.direction }
  pulse : (s.drive d).motion.state = .running → (s.drive d).motion.run = none → (s.drive d).motion.train.isSome = true →
    (t.drive d).book = (s.drive d).book.travelled s.comp.rereferenceDistance (s.livePosition d)
      (dist (s.livePosition d) (s.drive d).book.position)
  pausing : (s.drive d).motion.state = .pausing → (t.drive d).book = (s.drive d).book
  ended : (t.drive d).motion.run = none ∧ (t.drive d).motion.train = none ∧ (t.drive d).motion.pulseGap = none ∧
    d ∉ t.arbiter.holders
  notified : Notified d s t

/-- A drive has reversed (04 R91, R95, R100): its output has dropped early and the reversal pause runs for `left`; the
direction stays that of the run just ended, and the retry count stays. -/
structure Reversed (d : Drive) (left : Nat) (s t : State) : Prop where
  dropped : OutputDropped d s t
  state : (t.drive d).motion.state = .pausing
  pause : (t.drive d).motion.pause = some { kind := .reversal, left := left }
  direction : (t.drive d).motion.direction = (s.drive d).motion.direction
  purpose : (t.drive d).motion.purpose = .move
  retryCount : (t.drive d).motion.retryCount = (s.drive d).motion.retryCount

/-- The reversal pause of a VALVE that ends its train now (04 R95): to the later of pulse_off and reversal_pause after the
output last dropped. -/
def trainReversal (u : Setup) (m : Motion) (w : Train) : Nat :=
  max w.pulseOff u.reversalPause - (match m.pause with
    | some q => w.pulseOff - q.left
    | none => 0)

/-- What a HOME leaves true of its drive, by the motion state it found (04 R102): a VENT or SCREEN run toward 0 becomes a
homing run with its output on, a run or train toward 1000 reverses, a train toward 0 becomes a homing train, a STOPPED
VENT or SCREEN queues toward 0 or is granted at once, a STOPPED VALVE starts a homing train outside the restart hold, a
QUEUED drive keeps its CLOSE entry or has its OPEN entry replaced, and in a pause after a run, in RETRY_WAIT, in FAULTED
and in a homing nothing else happens. -/
structure Homed (d : Drive) (s t : State) : Prop where
  marker : (t.drive d).motion.homeMarker = true
  later : (s.drive d).motion.state = .retryWait ∨ (s.drive d).motion.state = .faulted ∨
      ((s.drive d).motion.state = .pausing ∧ (s.drive d).motion.run = none ∧ (s.drive d).motion.train = none) ∨
      (((s.drive d).motion.state = .running ∨ (s.drive d).motion.state = .pausing) ∧
        (s.drive d).motion.purpose = .home) →
    (t.drive d).motion = { (s.drive d).motion with homeMarker := true }
  vent : ∀ v, (s.drive d).motion.state = .running → (s.drive d).motion.purpose = .move →
    (s.drive d).motion.direction = .closing → (s.drive d).motion.run = some (.vent v) →
    (t.drive d).motion = { (s.drive d).motion with
      homeMarker := true, purpose := .home,
      run := some (.vent { start := s.livePosition d, aim := 0, lag := v.lag - v.timer, timer := 0,
                           planned := v.lag - v.timer + (s.setup d).homeTime }) }
  screen : ∀ v, (s.drive d).motion.state = .running → (s.drive d).motion.purpose = .move →
    (s.drive d).motion.direction = .closing → (s.drive d).motion.run = some (.screen v) →
    (t.drive d).motion = { (s.drive d).motion with
      homeMarker := true, purpose := .home, run := some (.screen { aim := 0, targetCount := 0, tally := 0 }) }
  reversed : ∀ v, (s.drive d).motion.state = .running → (s.drive d).motion.purpose = .move →
    (s.drive d).motion.direction = .opening → (s.drive d).motion.run = some v →
    (t.drive d).book.position = s.livePosition d ∧ Reversed d (s.setup d).reversalPause s t
  train : ∀ v, (s.drive d).motion.purpose = .move → (s.drive d).motion.direction = .closing →
    (s.drive d).motion.run = none → (s.drive d).motion.train = some v →
    (t.drive d).motion.purpose = .home ∧ ∃ w, (t.drive d).motion.train = some w ∧ w.aim = 0 ∧
      w.start = v.start ∧ w.done = v.done ∧ w.owed = v.done + (s.setup d).homeTime ∧
      w.length = if (s.drive d).motion.state = .running
        then min v.pulseOn ((s.setup d).homeTime + (s.setup d).startLag) else v.length
  trainReversed : ∀ v, (s.drive d).motion.purpose = .move → (s.drive d).motion.direction = .opening →
    (s.drive d).motion.run = none → (s.drive d).motion.train = some v →
    (t.drive d).book.position = s.livePosition d ∧
    Reversed d (trainReversal (s.setup d) (s.drive d).motion v) s t
  stopped : (s.drive d).motion.state = .stopped → (s.setup d).kind ≠ .valve → s.NoGrant →
    (t.drive d).motion = { (s.drive d).motion with
      homeMarker := true, state := .queued, purpose := .home, direction := .closing } ∧
    d ∈ t.waiting ∧ EntryPlaced d .closing s t
  starts : (s.drive d).motion.state = .stopped → (s.setup d).kind ≠ .valve → s.arbiter.restart = none →
    s.arbiter.spacing = none → s.arbiter.holders.length < s.comp.slotLimit → s.arbiter.queue = [] →
    (s.drive d).pins.tripOpen = false →
    (t.drive d).motion.state = .running ∧ (t.drive d).motion.purpose = .home ∧
    (t.drive d).motion.direction = .closing ∧ t.arbiter.holders = s.arbiter.holders ++ [d] ∧ t.arbiter.queue = [] ∧
    (t.drive d).motion.run = some (if (s.setup d).kind = .screen then
        .screen { aim := 0, targetCount := 0, tally := 0 }
      else .vent { start := (s.drive d).book.position, aim := 0, lag := (s.setup d).startLag, timer := 0,
                   planned := (s.setup d).startLag + (s.setup d).homeTime })
  stoppedValve : (s.drive d).motion.state = .stopped → (s.setup d).kind = .valve → s.arbiter.restart = none →
    (s.drive d).pins.tripOpen = false →
    (t.drive d).motion.state = .running ∧ (t.drive d).motion.purpose = .home ∧
    (t.drive d).motion.direction = .closing ∧ ∃ w, (t.drive d).motion.train = some w ∧ w.aim = 0 ∧
      w.start = (s.drive d).book.position ∧ w.owed = (s.setup d).homeTime ∧ w.done = 0 ∧ w.number = 1 ∧ w.elapsed = 0 ∧
      w.length = min (s.setup d).pulseOn ((s.setup d).homeTime + (s.setup d).startLag)
  heldValve : (s.drive d).motion.state = .stopped → (s.setup d).kind = .valve → s.arbiter.restart.isSome = true →
    (t.drive d).motion = { (s.drive d).motion with homeMarker := true }
  queuedClosing : (s.drive d).motion.state = .queued → (s.drive d).motion.direction = .closing → s.NoGrant →
    (t.drive d).motion = { (s.drive d).motion with homeMarker := true, purpose := .home } ∧ EntryKept d s t
  queuedOpening : (s.drive d).motion.state = .queued → (s.drive d).motion.direction = .opening → s.NoGrant →
    (t.drive d).motion = { (s.drive d).motion with homeMarker := true, purpose := .home, direction := .closing } ∧
    EntryPlaced d .closing s t ∧ ∀ e ∈ s.arbiter.queue, e.drive = d → e ∉ t.arbiter.queue

/-- A VALVE has begun a train with its first pulse from its position in `s`, with the choice made there (04 R87, R97, 01
R11, R24). -/
def TrainBegun (d : Drive) (s t : State) : Prop :=
  (t.drive d).motion.state = .running ∧ (t.drive d).motion.direction = (s.choice d).direction ∧
  (t.drive d).motion.purpose = (s.choice d).purpose ∧ (t.drive d).motion.pause = none ∧
  ∃ w, (t.drive d).motion.train = some w ∧ w.start = (s.drive d).book.position ∧ w.aim = (s.choice d).aim ∧
    w.done = 0 ∧ w.number = 1 ∧ w.elapsed = 0 ∧ w.length = min (s.setup d).pulseOn (w.owed + (s.setup d).startLag) ∧
    w.owed = if (s.choice d).purpose = .home then (s.setup d).homeTime
      else (s.setup d).driveTime (s.choice d).direction w.start w.aim

/-- The motion of a drive that became STOPPED in `s` with its position, count, knowledge, marker and target as they stood,
and made the decision of 04 R86: it stays STOPPED where it does not seek motion, or is a VALVE under the restart hold;
a VENT or SCREEN that seeks motion while no grant can follow is QUEUED with the purpose and direction of 04 R85; a
VALVE whose trip contact is closed begins a train with its first pulse (04 R87, R97, 01 R11). -/
structure Decided (d : Drive) (s t : State) : Prop where
  rests : s.seeksMotion d = false ∨ ((s.setup d).kind = .valve ∧ s.arbiter.restart.isSome = true) →
    (t.drive d).motion = { (s.drive d).motion with state := .stopped, pause := none, retryLeft := none } ∧
    (t.drive d).book = (s.drive d).book
  queues : s.seeksMotion d = true → (s.setup d).kind ≠ .valve →
    s.arbiter.restart.isSome = true ∨ s.arbiter.spacing.isSome = true ∨ s.comp.slotLimit ≤ s.arbiter.holders.length →
    (t.drive d).motion = { (s.drive d).motion with
      state := .queued, pause := none, retryLeft := none,
      direction := (s.choice d).direction, purpose := (s.choice d).purpose } ∧
    (∃ e ∈ t.arbiter.queue, e.drive = d ∧ e.direction = (s.choice d).direction ∧ e.arrival = s.arbiter.nextArrival) ∧
    t.arbiter.nextArrival = s.arbiter.nextArrival + 1
  train : s.seeksMotion d = true → (s.setup d).kind = .valve → s.arbiter.restart = none →
    (s.drive d).pins.tripOpen = false →
    TrainBegun d s t

/-- The outcome of a trip or a stall, `kind`, of a drive (06 R130, R131, R140): the output has dropped with the position of
the early-stop rule, the slot is free, the kind is latched and counted; beyond retry_limit the drive is FAULTED with
cause TRIP_LIMIT, and otherwise it waits, twice as long at each trip, at most 3600 s. -/
structure Tripped (d : Drive) (kind : DriveFault) (s t : State) : Prop where
  position : (t.drive d).book.position = s.livePosition d
  knowledge : (s.setup d).kind ≠ .screen → (t.drive d).book.knowledge =
    (if (s.drive d).book.knowledge = .referenced then .estimated else (s.drive d).book.knowledge)
  count : (t.drive d).book.count = (s.drive d).book.count
  ended : (t.drive d).motion.run = none ∧ (t.drive d).motion.train = none ∧ (t.drive d).motion.pause = none ∧
    (t.drive d).motion.pulseGap = none ∧ d ∉ t.arbiter.holders
  coast : (s.setup d).kind = .screen →
    (t.drive d).motion.coast = some { left := 10, direction := (t.drive d).motion.direction }
  kept : (t.drive d).motion.homeMarker = (s.drive d).motion.homeMarker
  retryCount : (t.drive d).motion.retryCount = (s.drive d).motion.retryCount + 1
  latched : (t.drive d).faults.latched.has kind = true
  tripCount : (t.drive d).faults.tripCount = min 255 ((s.drive d).faults.tripCount + 1)
  waits : (s.drive d).motion.retryCount + 1 ≤ (s.setup d).retryLimit → (t.drive d).motion.state = .retryWait ∧
    (t.drive d).motion.retryLeft =
      some (min 36000 ((s.setup d).retryBase * 10 * 2 ^ (s.drive d).motion.retryCount))
  faulted : (s.setup d).retryLimit < (s.drive d).motion.retryCount + 1 → (t.drive d).motion.state = .faulted ∧
    (t.drive d).motion.cause = some .tripLimit ∧ (t.drive d).faults.latched.has .tripLimit = true

/-- A run or a train of a drive has ended in a normal stop (04 R90, R94): the output is off, the slot is free, the retry
count is 0, the settle pause runs for reversal_pause, and DRIVE_STATE is due. -/
structure NormalStop (d : Drive) (s t : State) : Prop where
  state : (t.drive d).motion.state = .pausing
  pause : (t.drive d).motion.pause = some { kind := .settle, left := (s.setup d).reversalPause }
  retryCount : (t.drive d).motion.retryCount = 0
  ended : (t.drive d).motion.run = none ∧ (t.drive d).motion.train = none ∧ d ∉ t.arbiter.holders
  direction : (t.drive d).motion.direction = (s.drive d).motion.direction
  notified : Notified d s t

/-! ### A new effective target at the drive controller -/

/-- A QUEUED drive has made its decision again, with its position book, marker and target as `u` has them (04 R88): without
motion to seek its entry is withdrawn and it is STOPPED; in the queued direction the entry stays; and in the other one a
new entry takes its place. The other entries stay as they are while no grant can follow. -/
structure DecidedAgain (d : Drive) (u t : State) : Prop where
  book : u.NoGrant ∨ u.seeksMotion d = false → (t.drive d).book = (u.drive d).book
  withdrawn : u.seeksMotion d = false →
    (t.drive d).motion = { (u.drive d).motion with state := .stopped, purpose := .move } ∧ d ∉ t.waiting
  kept : u.seeksMotion d = true → (u.choice d).direction = (u.drive d).motion.direction → u.NoGrant →
    (t.drive d).motion = { (u.drive d).motion with purpose := (u.choice d).purpose } ∧ EntryKept d u t
  replaced : u.seeksMotion d = true → (u.choice d).direction ≠ (u.drive d).motion.direction → u.NoGrant →
    (t.drive d).motion = { (u.drive d).motion with
      direction := (u.choice d).direction, purpose := (u.choice d).purpose } ∧
    EntryPlaced d (u.choice d).direction u t ∧ ∀ e ∈ u.arbiter.queue, e.drive = d → e ∉ t.arbiter.queue
  others : u.NoGrant → ∀ e, e.drive ≠ d → (e ∈ t.arbiter.queue ↔ e ∈ u.arbiter.queue)

/-- A RUNNING VENT or SCREEN whose purpose is MOVE has met the target of `u` in its run `r`, the first case of 04 R91 that
holds: the aim stays; it is the end the run leads to, or lies beyond, and the run is re-planned (01 R10); it is within
deadband, and the run stops here; or the drive reverses. -/
structure RunRetargeted (d : Drive) (r : Run) (u t : State) : Prop where
  same : (u.choice d).aim = r.aim →
    (t.drive d).motion = (u.drive d).motion ∧ (t.drive d).book = (u.drive d).book
  cases :
    let m := (u.drive d).motion
    let a := (u.choice d).aim
    let p := u.livePosition d
    let near := endAt a = none ∧ (dist a p ≤ (u.setup d).deadband ∨
      (u.setup d).kind = .screen ∧ (u.drive d).book.count = roundHalfUp (a * (u.setup d).pps) 1000)
    let ahead := match m.direction with
      | .opening => p < a
      | .closing => a < p
    let on := endAt a = some (endOf m.direction) ∨ (¬ near ∧ ahead)
    a ≠ r.aim →
      (∀ v, r = .vent v → on → (t.drive d).book = (u.drive d).book ∧ (t.drive d).motion = { m with
        run := some (.vent { start := p, aim := a, lag := v.lag - v.timer, timer := 0,
                             planned := v.lag - v.timer + (u.setup d).driveTime m.direction p a }) }) ∧
      (∀ v, r = .screen v → on → (t.drive d).book = (u.drive d).book ∧ (t.drive d).motion = { m with
        run := some (.screen { aim := a, targetCount := roundHalfUp (a * (u.setup d).pps) 1000,
                               tally := if (endAt a).isSome = true ∧ endAt v.aim = none then 0 else v.tally }) }) ∧
      (near → NormalStop d u t ∧ OutputDropped d u t) ∧
      (¬ near → ¬ on → Reversed d (u.setup d).reversalPause u t)

/-- A VALVE in a train `w` whose purpose is MOVE has met the target of `u`: the aim stays, the train is retargeted (04
R99), ends here within deadband, or ends by reversal (04 R100). -/
structure TrainRetargeted (d : Drive) (w : Train) (u t : State) : Prop where
  same : (u.choice d).aim = w.aim →
    (t.drive d).motion = (u.drive d).motion ∧ (t.drive d).book = (u.drive d).book
  cases :
    let m := (u.drive d).motion
    let a := (u.choice d).aim
    let p := u.livePosition d
    let ahead := match m.direction with
      | .opening => p < a
      | .closing => a < p
    let on := endAt a = some (endOf m.direction) ∨ (endAt a = none ∧ ahead ∧ (u.setup d).deadband < dist a p)
    let near := endAt a = none ∧ dist a p ≤ (u.setup d).deadband
    let owed := (u.setup d).driveTime m.direction w.start a
    a ≠ w.aim →
      (on → (t.drive d).book = (u.drive d).book ∧ (t.drive d).motion = { m with
        train := some { w with
          aim := a, owed := owed,
          length := if m.state = .running then min w.pulseOn (owed - w.done + (u.setup d).startLag) else w.length } }) ∧
      (near → NormalStop d u t ∧ OutputDropped d u t) ∧
      (¬ near → ¬ on → Reversed d (trainReversal (u.setup d) m w) u t)

/-- What a drive controller has done with a new effective target, by the motion state of its drive (04 R86, R88, R91, R96,
R99 to R101, R106). -/
structure TookTarget (d : Drive) (s t : State) : Prop where
  stopped : (s.drive d).motion.state = .stopped → (s.drive d).motion.pause = none →
    (s.drive d).motion.retryLeft = none →
    Decided d (s.withDemand d (t.drive d).demand) t ∧
    ((s.withDemand d (t.drive d).demand).seeksMotion d = true → (s.setup d).kind ≠ .valve →
      s.arbiter.restart = none → s.arbiter.spacing = none → s.arbiter.holders.length < s.comp.slotLimit →
      s.arbiter.queue = [] → (s.drive d).pins.tripOpen = false →
      (t.drive d).motion.state = .running ∧ t.arbiter.holders = s.arbiter.holders ++ [d] ∧ t.arbiter.queue = [])
  queued : (s.drive d).motion.state = .queued → DecidedAgain d (s.withDemand d (t.drive d).demand) t
  run : ∀ r, (s.drive d).motion.state = .running → (s.drive d).motion.purpose = .move →
    (s.drive d).motion.run = some r → RunRetargeted d r (s.withDemand d (t.drive d).demand) t
  train : ∀ w, (s.drive d).motion.purpose = .move → (s.drive d).motion.run = none →
    (s.drive d).motion.train = some w → TrainRetargeted d w (s.withDemand d (t.drive d).demand) t
  later : (s.drive d).motion.state = .retryWait ∨ (s.drive d).motion.state = .faulted ∨
      (s.drive d).motion.state = .locked ∨ (s.drive d).motion.state = .absent ∨
      ((s.drive d).motion.state = .pausing ∧ (s.drive d).motion.run = none ∧ (s.drive d).motion.train = none) ∨
      (((s.drive d).motion.state = .running ∨ (s.drive d).motion.state = .pausing) ∧
        (s.drive d).motion.purpose = .home) →
    (t.drive d).motion = (s.drive d).motion ∧ (t.drive d).book = (s.drive d).book

/-- What a resolution outside a lockout has handed on (02 R50): a new effective target to the drive controller; and with
the target as it was, nothing but the raise of a waiting entry (05 R116). A VALVE, and a drive whose target stays and that
does not wait, bring about no event at the start arbiter, and so no grant (05 R118, R122, R125). -/
def Retargeted (d : Drive) (s t : State) : Prop :=
  s.QueueOk → (s.drive d).demand.governing ≠ .lockout → (t.drive d).demand.governing ≠ .lockout →
    ((s.setup d).kind = .valve ∨
      ((t.drive d).demand.target = (s.drive d).demand.target ∧ (s.drive d).motion.state ≠ .queued) →
      t.arbiter = s.arbiter) ∧
    ((t.drive d).demand.target ≠ (s.drive d).demand.target → TookTarget d s t) ∧
    ((t.drive d).demand.target = (s.drive d).demand.target →
      (s.drive d).motion.state ≠ .queued ∨ s.NoGrant →
      (t.drive d).motion = (s.drive d).motion ∧ (t.drive d).book = (s.drive d).book ∧
      EntryKept d (s.withDemand d (t.drive d).demand) t)

/-! ### Decisions and bounds, case by case -/

/-- Whether a drive seeks motion (04 R84), and what it then chooses (04 R85, 01 R23), case by case. -/
structure ChoiceCases (s : State) (d : Drive) : Prop where
  seeks :
    let u := s.setup d
    let b := (s.drive d).book
    let m := (s.drive d).motion
    let t := (s.drive d).demand.target
    let away := t ≠ 0 ∧ t ≠ 1000 ∧ u.deadband < dist t b.position ∧
      ¬ (u.kind = .screen ∧ b.count = roundHalfUp (t * u.pps) 1000)
    let offEnd (e : End) (p : Nat) := t = p ∧ (b.position ≠ p ∨ (b.knowledge ≠ .referenced ∧ m.missedEnd ≠ some e))
    s.seeksMotion d = true ↔
      u.kind ≠ .unused ∧ (m.homeMarker = true ∨ away ∨ offEnd .closed 0 ∨ offEnd .opened 1000)
  homes : (s.drive d).book.knowledge = .unknown ∨ (s.drive d).motion.homeMarker = true →
    s.choice d = { purpose := .home, aim := 0, direction := .closing }
  moves : (s.drive d).book.knowledge ≠ .unknown → (s.drive d).motion.homeMarker = false →
    let u := s.setup d
    let b := (s.drive d).book
    let m := (s.drive d).motion
    let t := (s.drive d).demand.target
    let band := s.comp.endSnapBand
    let snapClosed := b.knowledge = .estimated ∧ u.closedSwitch = true ∧ 0 < t ∧ t ≤ band ∧ m.missedEnd ≠ some .closed
    let snapOpened := b.knowledge = .estimated ∧ u.openSwitch = true ∧ t < 1000 ∧ 1000 ≤ t + band ∧
      m.missedEnd ≠ some .opened
    let c := s.choice d
    c.purpose = .move ∧
    (snapClosed → ¬ snapOpened → c.aim = 0) ∧ (snapOpened → ¬ snapClosed → c.aim = 1000) ∧
    (¬ snapClosed → ¬ snapOpened → c.aim = t) ∧
    (b.position < c.aim → c.direction = .opening) ∧ (c.aim < b.position → c.direction = .closing) ∧
    (c.aim = b.position → (c.aim = 0 → c.direction = .closing) ∧ (c.aim = 1000 → c.direction = .opening))

/-- The bounds that the envelope unit computes for a drive, by its kind (03 R61, R66, R67, R69; 02 R46). -/
structure BoundsCases (s : State) (d : Drive) : Prop where
  vent : (s.setup d).kind = .vent →
    let e := s.envelope
    let windward : Bool := match (s.setup d).facing, e.observation.bind Observation.direction with
      | some f, some a => decide (min (dist a f) (360 - dist a f) ≤ 90)
      | _, _ => true
    let held := if windward then e.held.windward else e.held.leeward
    let rained := if e.rain && windward then min held s.comp.rainCeiling else held
    let snowed := if e.snow then 0 else rained
    s.boundsOf d = (0, if e.weather = .stale then min snowed s.comp.staleVentCeiling else snowed)
  screen : (s.setup d).kind = .screen → s.boundsOf d = (0, if s.envelope.snow then 0 else 1000)
  valve : (s.setup d).kind = .valve → s.boundsOf d =
    (if s.envelope.snow then max s.envelope.frostFloor s.comp.snowValveFloor else s.envelope.frostFloor, 1000)
  unused : (s.setup d).kind = .unused → s.boundsOf d = (0, 1000)

/-- The frost floor of a temperature (03 R68) and a side's ceiling at an effective wind (03 R60), case by case. -/
structure WeatherCases (c : Compartment) : Prop where
  frost : ∀ temp : Option Int, frostFloorAt c temp = match temp with
    | none => c.frostMaxFloor
    | some t => if c.frostStart ≤ t then 0 else if t ≤ c.frostFull then c.frostMaxFloor
        else ceilDiv (c.frostMaxFloor * (c.frostStart - t).toNat) (c.frostStart - c.frostFull).toNat
  ceiling : ∀ lo hi w : Nat, (w ≤ lo → sideCeiling lo hi w = 1000) ∧
    (lo < w → hi ≤ w → sideCeiling lo hi w = 0) ∧
    (lo < w → w < hi → sideCeiling lo hi w = 1000 * (hi - w) / (hi - lo))

/-- The times and counts that a plan is built from (01 R6, R11, R13, R16, R24), with the quotients of 00_scope 5.4 written
out. -/
structure PlanTimes (u : Setup) : Prop where
  halfUp : ∀ a b : Nat, roundHalfUp a b = (a + b / 2) / b
  up : ∀ a b : Nat, 0 < b → ceilDiv a b = (a + b - 1) / b
  distance : ∀ a b : Nat, dist a b = if a ≤ b then b - a else a - b
  drive : ∀ (dir : Direction) (start aim : Nat),
    let stroke := match dir with
      | .opening => u.strokeOpen
      | .closing => u.strokeClose
    u.driveTime dir start aim = ceilDiv (dist aim start * stroke) 1000 +
      (if aim = 0 ∨ aim = 1000 then ceilDiv (u.overrun * stroke) 100 else 0)
  home : u.homeTime = u.strokeClose + ceilDiv (u.overrun * u.strokeClose) 100
  count : ∀ p, u.countOf p = roundHalfUp (p * u.pps) 1000
  overrun : u.overrunPulses = ceilDiv (u.overrun * u.pps) 100

/-- The position of a drive at this moment, case by case (01 R2, R7, R12, R13): the position book's, but for a RUNNING VENT
and for a VALVE in a pulse, whose start position is moved toward the aim by the time served beyond the lag, as per-mille of
the stroke time of its direction, rounded half up, and no further than the aim. A VENT stands at its start until the lag is
over and at its aim from the planned time on. -/
structure LivePositionCases (s : State) (d : Drive) : Prop where
  still : (s.drive d).motion.state ≠ .running → s.livePosition d = (s.drive d).book.position
  screen : ∀ v, (s.drive d).motion.run = some (.screen v) → s.livePosition d = (s.drive d).book.position
  idle : (s.drive d).motion.run = none → (s.drive d).motion.train = none →
    s.livePosition d = (s.drive d).book.position
  vent : ∀ v, (s.drive d).motion.state = .running → (s.drive d).motion.run = some (.vent v) →
    let u := s.setup d
    let dir := (s.drive d).motion.direction
    let stroke := match dir with
      | .opening => u.strokeOpen
      | .closing => u.strokeClose
    let travel := ((v.timer - v.lag) * 1000 + stroke / 2) / stroke
    s.livePosition d = (if v.start ≤ v.aim then min v.aim (v.start + travel) else max v.aim (v.start - travel)) ∧
    (v.timer ≤ v.lag → s.livePosition d = v.start) ∧
    (0 < stroke → v.planned ≤ v.timer → v.lag + u.driveTime dir v.start v.aim ≤ v.planned → s.livePosition d = v.aim)
  pulse : ∀ w, (s.drive d).motion.state = .running → (s.drive d).motion.run = none →
    (s.drive d).motion.train = some w →
    let u := s.setup d
    let stroke := match (s.drive d).motion.direction with
      | .opening => u.strokeOpen
      | .closing => u.strokeClose
    let served := w.done + (w.elapsed - u.startLag)
    let travel := (served * 1000 + stroke / 2) / stroke
    s.livePosition d = if w.start ≤ w.aim then min w.aim (w.start + travel) else max w.aim (w.start - travel)

/-! ### Setup writes -/

/-- The range of a field of the drive setup as it is sent, for a record of kind `k` (01 section 1.2, R3; 08 R188). -/
def driveRange (k : Kind) (field v : Nat) : Prop :=
  (∃ r ∈ [(1, 0, 3), (2, 50, 6000), (3, 50, 6000), (4, 0, 50), (5, 100, 60000), (6, 2, 100), (7, 0, 359), (8, 0, 1),
      (9, 0, 1), (10, 0, 100), (11, 0, 50), (12, 5, 300), (13, 5, 600), (14, 5, 1200), (16, 0, 1000), (17, 5, 600),
      (18, 0, 8)], r.1 = field ∧ r.2.1 ≤ v ∧ v ≤ r.2.2) ∨
  ((field = 7 ∨ field = 16) ∧ v = 0xFFFF) ∨
  (field = 15 ∧ if k = .valve then 1 ≤ v ∧ v ≤ 16 else v = 0 ∨ (10 ≤ v ∧ v ≤ 500))

/-- The range of a field of the compartment setup (08 R181). -/
def compartmentRange (field : Nat) (v : Int) : Prop :=
  ∃ r ∈ [(1, 1, 8), (2, 0, 50), (3, 300, 36000), (4, 0, 600), (5, 0, 600), (6, 0, 600), (7, 0, 600), (8, 0, 1000),
    (9, 0, 1000), (10, -400, 500), (11, -400, 500), (12, 0, 1000), (13, 100, 18000), (14, 100, 6000), (15, 0, 1000),
    (16, 1, 254), (17, 1, 200), (18, 0, 6000), (19, 1000, 50000), (20, 0, 100)],
    r.1 = field ∧ r.2.1 ≤ v ∧ v ≤ (r.2.2 : Int)

/-- The position book after a write that takes the record of a drive from `u` to `v` (01 R5). -/
def Book.written (b : Book) (u v : Setup) : Book :=
  if v.kind ≠ u.kind then { position := 0, count := 0, knowledge := .unknown, travel := 0 }
  else if v.pps ≠ u.pps ∧ v.kind = .screen then
    { b with count := roundHalfUp (b.position * v.pps) 1000, knowledge := .unknown }
  else if v.strokeOpen ≠ u.strokeOpen ∨ v.strokeClose ≠ u.strokeClose then
    { b with knowledge := if b.knowledge = .unknown then .unknown else .estimated }
  else b

/-- The motion state after a write that takes the record of a drive from `u` to `v`, before its decision (04 R107). -/
def stateWritten (u v : Setup) (present lockout : Bool) (m : MotionState) : MotionState :=
  if v.kind = u.kind then m
  else if v.kind = .unused then
    if m = .absent then (if lockout then .locked else .stopped) else m
  else if u.kind = .unused ∧ present = false ∧ (m = .stopped ∨ m = .locked) then .absent
  else m

/-- The motion record after a write that takes the record of a drive from `u` to `v`, its motion state to `state` and its
book from `b` to `c`, before its decision (04 R84, R107; 06 R132; the coast window by log entry 26). A missed end stays
while the drive stands at it with its knowledge as it was. -/
def Motion.written (m : Motion) (u v : Setup) (state : MotionState) (b c : Book) : Motion :=
  if v.kind ≠ u.kind then
    { m with state := state, direction := .closing, purpose := .move, homeMarker := false, missedEnd := none,
             retryCount := 0, coast := none, travelBase := 0 }
  else
    { m with
      missedEnd := if v.closedSwitch ≠ u.closedSwitch ∨ v.openSwitch ≠ u.openSwitch ∨ c.knowledge ≠ b.knowledge then none
        else m.missedEnd.filter (fun e => c.position == endPosition e),
      retryCount := if v.retryLimit < u.retryLimit then
          min m.retryCount (if m.state = .faulted then v.retryLimit + 1 else v.retryLimit)
        else m.retryCount }

/-! ### Completions, references and faults -/

/-- A run or a train of purpose MOVE or HOME has been completed at its aim (01 R8, R11, R21; 04 R90, R101): the position is
the aim; at an end without a switch the drive is REFERENCED with travel 0, at an end whose switch was not seen it is
ESTIMATED, END_SWITCH_MISSED is latched and the missed end names that end; a homing clears its marker. -/
structure CompletedAt (d : Drive) (aim : Nat) (s t : State) : Prop where
  stop : NormalStop d s t
  position : (t.drive d).book.position = aim
  unswitched : ∀ e, endAt aim = some e → (s.setup d).fitted e = false →
    (t.drive d).book.knowledge = .referenced ∧ (t.drive d).book.travel = 0
  missed : ∀ e, endAt aim = some e → (s.setup d).fitted e = true →
    (t.drive d).book.knowledge = .estimated ∧ (t.drive d).motion.missedEnd = some e ∧
    (t.drive d).faults.latched.endSwitchMissed = true
  homed : (endAt aim).isSome = true → (s.drive d).motion.purpose = .home → (t.drive d).motion.homeMarker = false

/-- A run of a VENT or SCREEN has newly reached its progress point `k` at position `x` (04 R109): the furthest whole multiple
of notice_interval beyond the run's start and beyond the last point reached. -/
def ReachedPoint (u : Setup) (m : Motion) (x k : Nat) : Prop :=
  0 < u.noticeInterval ∧ u.noticeInterval ∣ k ∧
  match m.direction with
  | .opening => k ≤ x ∧ x < k + u.noticeInterval ∧ m.travelBase < k ∧ ∀ l, m.lastProgress = some l → l < k
  | .closing => x ≤ k ∧ k < x + u.noticeInterval ∧ k < m.travelBase ∧ ∀ l, m.lastProgress = some l → k < l

/-- A drive is referenced at an end (01 R17). -/
structure ReferencedAt (d : Drive) (e : End) (s t : State) : Prop where
  position : (t.drive d).book.position = endPosition e
  count : (t.drive d).book.count = if (s.setup d).kind = .screen ∧ e = .opened then (s.setup d).pps else 0
  knowledge : (t.drive d).book.knowledge = .referenced
  travel : (t.drive d).book.travel = 0

/-- A drive has become FAULTED with a cause that is latched, its output off and its knowledge UNKNOWN (01 R18, R19; 06 R134
to R136). -/
structure FaultedBy (d : Drive) (k : DriveFault) (s t : State) : Prop where
  state : (t.drive d).motion.state = .faulted
  cause : (t.drive d).motion.cause = some k
  latched : (t.drive d).faults.latched.has k = true
  active : (t.drive d).active.has k = true
  knowledge : (t.drive d).book.knowledge = .unknown
  position : (t.drive d).book.position = s.livePosition d
  ended : (t.drive d).motion.pause = none ∧ (t.drive d).motion.retryLeft = none ∧ d ∉ t.arbiter.holders ∧ d ∉ t.waiting
  retryCount : (t.drive d).motion.retryCount = (s.drive d).motion.retryCount

/-! ### The fault summary -/

/-- A latched pair of the fault table: a kind with its drive, or a compartment kind with no drive (06 R141). -/
def State.latches (s : State) : FaultKind → Option Drive → Prop
  | .ofDrive k, some d => (s.drive d).faults.latched.has k = true
  | .ofCompartment .weatherStale, none => s.faults.staleLatched = true
  | .ofCompartment .storeInvalid, none => s.faults.storeLatched = true
  | _, _ => False

/-- A summary of the latched pairs of `s`, case by case (06 R139, R141): the pair of the highest priority, which has the
lowest value of 08 R188, and for one kind the lowest drive; MULTIPLE says that another pair is latched. -/
structure SummaryCases (s : State) (m : Summary) : Prop where
  empty : (∀ k d, ¬ s.latches k d) → m = { kind := none, drive := none, multiple := false }
  first : ∀ k d, s.latches k d →
    (∀ j e, s.latches j e → k.code < j.code ∨ (j = k ∧ ∀ a b, d = some a → e = some b → a ≤ b)) →
    m.kind = some k ∧ m.drive = d
  multiple : m.multiple = true ↔ ∃ k d j e, s.latches k d ∧ s.latches j e ∧ ¬ (k = j ∧ d = e)

/-! ### Sweeps -/

/-- The step of a context is taken next (07 R155): no request waits, the context is the one whose turn it is, and its next
index is place `i`, which holds drive `d`. -/
def State.StepsNext (s : State) (c : Context) (i : Nat) (d : Drive) : Prop :=
  s.held = false ∧ s.nextServed = none ∧ s.nextStepped = some c ∧ (s.sweep c).nextIndex = some i ∧
  1 ≤ i ∧ (s.sweep c).members[i - 1]? = some d

/-- A context goes on from the record `x` with `next` as its next index (07 R156, R161, R163): STEPPING at that place, or,
when no place remains, IDLE with a result, EXHAUSTED, and SWEEP_DONE pending for its owner. Its completion order is one
given in the event: none before it was as high, and every later one is higher (07 R151). -/
def WentOnTo (c : Context) (next : Option Nat) (x : SweepCtx) (s t : State) : Prop :=
  (∀ n, next = some n → t.sweep c = { x with nextIndex := some n, state := .stepping, inHand := none }) ∧
  (next = none → (∃ n, s.sweeps.nextCompletion ≤ n ∧ n < t.sweeps.nextCompletion ∧ t.sweep c = { x with
      nextIndex := none, state := .idle, inHand := none, completion := some n,
      markers := { x.markers with exhausted := true } }) ∧
    Subject.sweepDone c ∈ (t.port x.owner).notices)

/-- A context goes on from the record `x` after place `i`, to the following place in its order (07 R156). -/
def WentOn (c : Context) (i : Nat) (x : SweepCtx) (s t : State) : Prop :=
  WentOnTo c (match x.order with
    | .forward => if i < x.members.length then some (i + 1) else none
    | .reverse => if 1 < i then some (i - 1) else none) x s t

/-- A command acts on context `c` of the sweep engine alone: beside that context, the pointer and the completion order, and
a subject joining an owner's notices, everything is as it was. A sweep that ends takes the next completion order, and no
other is given (07 R151, R163). -/
structure SweepsOnly (c : Context) (s t : State) : Prop where
  other : t.sweep (otherContext c) = s.sweep (otherContext c)
  ended : (t.sweep c).state = .idle → (t.sweep c).completion = some s.sweeps.nextCompletion ∧
    t.sweeps.nextCompletion = s.sweeps.nextCompletion + 1
  active : (t.sweep c).state ≠ .idle → t.sweeps.nextCompletion = s.sweeps.nextCompletion
  drives : t.drives = s.drives
  drivesOnly : DrivesOnly (fun _ => False) (fun _ => False) s t
  arbiter : t.arbiter = s.arbiter
  store : t.store = s.store
  summary : t.faults = s.faults

/-- A command changes the envelope unit, its notices and the stale condition of the fault table alone. -/
structure EnvelopeOnly (s t : State) : Prop where
  drives : t.drives = s.drives
  settings : t.settings = s.settings
  store : t.store = s.store
  arbiter : t.arbiter = s.arbiter
  sweeps : t.sweeps = s.sweeps
  queues : QueuesSame s t
  envSubs : t.envSubs = s.envSubs
  held : t.held = s.held
  resetLine : t.resetLine = s.resetLine
  pending : t.pending = s.pending
  storeFault : t.faults.storeActive = s.faults.storeActive ∧ t.faults.storeLatched = s.faults.storeLatched
  still : ∀ p x, x ∈ (s.port p).notices → x ∈ (t.port p).notices

/-- The pairs of bounds that an event has put on their way (03 R70): after those that were on their way, one for each drive
in use whose pair now differs from the pair last pushed for it, and none for another. -/
structure PushedChanges (s t : State) : Prop where
  appended : ∃ l, t.envelope.pushes = s.envelope.pushes ++ l ∧
    ∀ p ∈ l, (t.setup p.drive).kind ≠ .unused ∧ (p.floor, p.ceiling) = t.boundsOf p.drive ∧
      (p.floor, p.ceiling) ≠ s.lastPushed p.drive
  current : ∀ d, (t.setup d).kind ≠ .unused → t.lastPushed d = t.boundsOf d

/-- ENVELOPE is pending for each subscriber if a held ceiling, the frost floor, rain, snow or the weather state changed (03
R71). -/
def EnvelopeMarked (s t : State) : Prop :=
  (t.envelope.held ≠ s.envelope.held ∨ t.envelope.frostFloor ≠ s.envelope.frostFloor ∨
    t.envelope.rain ≠ s.envelope.rain ∨ t.envelope.snow ≠ s.envelope.snow ∨
    t.envelope.weather ≠ s.envelope.weather) →
  ∀ p, s.envSubs.get p = true → Subject.envelope ∈ (t.port p).notices

/-! ### Resets -/

/-- The port unit, the request arbiter's pointer and the notice unit after a reset: every queue is empty, but for the
FAULT_SUMMARY that the fault table may have marked in the reset itself (08 R186, 09 R199, R200). -/
structure PortsReset (t : State) : Prop where
  queues : ∀ p, (t.port p).inbound = [] ∧ (t.port p).replies = [] ∧ ∀ x ∈ (t.port p).notices, x = Subject.faultSummary
  lines : ∀ p, (t.port p).receiver = .hunting ∧ (t.port p).sending = none ∧ (t.port p).lastSource = .notice ∧
    (t.port p).sequence = 0
  weatherRx : t.weatherRx = .hunting
  turn : t.turn = .climate
  envSubs : ∀ p, t.envSubs.get p = false
  subs : ∀ d p, (t.drive d).subs.get p = false

/-- A drive's demand table entry after a reset that found or set it at `position`: its panel and climate entries, its cap
and its displacement records are absent, and it is resolved against the bounds of the envelope (02 R54, R55). -/
structure DemandReset (t : State) (d : Drive) (position : Nat) : Prop where
  panel : (t.drive d).demand.panel = none
  climate : (t.drive d).demand.climate = none
  cap : (t.drive d).demand.cap = none
  displaced : (t.drive d).demand.displacedClimate = none ∧ (t.drive d).demand.displacedPanel = none
  bounds : ((t.drive d).demand.envFloor, (t.drive d).demand.envCeiling) = t.boundsOf d
  resolved : (t.drive d).demand.ResolvedFrom (t.setup d).fallback position position

/-! ### Frames -/

/-- What the unit answers to bytes that arrive on a master port, one after the other. -/
def byteByByte (p : Port) (s : State) (bytes : List Byte) : Host.Outcome State Fault Refusal :=
  bytes.foldl (fun o b => match o with
    | .next t => exec (.byteArrival (.master p) b) t
    | other => other) (.next s)

/-- A receiver after bytes of the line, and the frames that have come complete, in order (08 R171). -/
def Receiver.feed (rx : Receiver) : List Byte → Receiver × List Frame
  | [] => (rx, [])
  | b :: rest =>
    let x := rx.take b
    let y := Receiver.feed x.1 rest
    (y.1, x.2.toList ++ y.2)

/-- The number that the bytes of a record from an offset on send, high byte first (08 R188). -/
def numberAt (bytes : List Byte) (offset size : Nat) : Nat :=
  ((bytes.drop offset).take size).foldl (fun n b => 256 * n + b.toNat) 0

/-- The number a flag is sent as (08 R188). -/
def flagNumber (b : Bool) : Nat := if b then 1 else 0

/-- Whole seconds, rounded up, of a time in tenths. -/
def wholeSeconds (tenths : Nat) : Nat := (tenths + 9) / 10

/-- The live demands of a drive as its status record lists them: source, value and remaining lifetime (02 R28, 08 R189). -/
def Demand.listed (m : Demand) : List (Nat × Nat × Nat) :=
  (if m.lockout then [(0, 0, 0)] else []) ++
  (m.panel.map (fun h => (1, h.value, max 1 (wholeSeconds h.left)))).toList ++
  (m.climate.map (fun h => (2, h.value, max 1 (wholeSeconds h.left)))).toList

/-! ### The table of requests (08 R174) -/

/-- Whether a port may send a request of a kind, START_SWEEP's and CANCEL_SWEEP's own checks apart (08 R174, R175). -/
def permitted (p : Port) (kind : Byte) : Bool :=
  match p, kind.toNat with
  | .climate, k => !([3, 4, 5, 6, 7].contains k)
  | .panel, k => !([6, 7].contains k)
  | .heat, k => [6, 7, 10, 11, 12, 14, 15, 16, 17, 18, 23, 24, 25].contains k

/-- Whether a request of a kind may have a payload of `n` bytes (08 R174). -/
def lengthAllowed (kind : Byte) (n : Nat) : Bool :=
  match kind.toNat with
  | 1 => n == 3 || n == 5
  | 2 | 4 | 5 | 7 | 8 | 9 | 10 | 17 | 18 | 23 | 24 => n == 1
  | 3 | 14 | 15 => n == 2
  | 6 => n == 3 || n == 7
  | 11 | 12 | 13 | 22 | 25 => n == 0
  | 16 => n == 9
  | 19 => 4 ≤ n && n ≤ 55 && n % 3 == 1
  | 20 => 3 ≤ n
  | 21 => 3 ≤ n && n ≤ 60 && n % 3 == 0
  | _ => false

/-! ### Services -/

/-- The request `f` of a port is served next: the port is the one the request arbiter chooses (08 R173), `f` stands at
the head of its inbound queue, and the unit is not held in reset (10 R205). -/
def State.ServesNext (s : State) (p : Port) (f : Frame) : Prop :=
  s.held = false ∧ s.nextServed = some p ∧ (s.port p).inbound.head? = some f

/-- The reply of a request with an outcome and data (08 R175). -/
def replyFrame (f : Frame) (r : Result) (data : List Byte) : Frame :=
  { kind := f.kind + 0x80#8, tag := f.tag, payload := r.code :: data }

/-- The request at the head of a port has left its inbound queue, its reply has joined the reply queue, the pointer
names the port that follows, and the other ports' queues are as they were (08 R173, R175). -/
def Answered (p : Port) (reply : Frame) (s t : State) : Prop :=
  t.turn = nextPort p ∧ (t.port p).inbound = (s.port p).inbound.tail ∧
  (t.port p).replies = (s.port p).replies ++ [reply] ∧
  ∀ q, q ≠ p → (t.port q).inbound = (s.port q).inbound ∧ (t.port q).replies = (s.port q).replies

/-- What the request arbiter chooses, case by case (08 R173, 07 R155): the first port from the pointer's on, in the cycle
CLIMATE, HEAT, PANEL, that has a request waiting and fewer than 4 replies; and no step while any request waits, otherwise
that of the context the alternation pointer names, or of the other one where only that is STEPPING. -/
structure ArbiterCases (s : State) : Prop where
  cycle : nextPort .climate = .heat ∧ nextPort .heat = .panel ∧ nextPort .panel = .climate
  serves :
    let eligible (p : Port) := (s.port p).inbound ≠ [] ∧ (s.port p).replies.length < 4
    let first := s.turn
    let second := nextPort first
    let third := nextPort second
    (eligible first → s.nextServed = some first) ∧
    (¬ eligible first → eligible second → s.nextServed = some second) ∧
    (¬ eligible first → ¬ eligible second → eligible third → s.nextServed = some third) ∧
    (¬ eligible first → ¬ eligible second → ¬ eligible third → s.nextServed = none)
  waits : (∃ p, (s.port p).inbound ≠ []) → s.nextStepped = none
  steps : (∀ p, (s.port p).inbound = []) →
    let named := s.sweeps.pointer
    let other : Context := match named with
      | .one => .two
      | .two => .one
    ((s.sweep named).state = .stepping → s.nextStepped = some named) ∧
    ((s.sweep named).state ≠ .stepping → (s.sweep other).state = .stepping → s.nextStepped = some other) ∧
    ((s.sweep named).state ≠ .stepping → (s.sweep other).state ≠ .stepping → s.nextStepped = none)

/-- `s` after a service that changes nothing but the queues of its port and the pointer. -/
def State.afterService (s : State) (p : Port) (reply : Frame) : State :=
  { s.setPort p { s.port p with inbound := (s.port p).inbound.tail, replies := (s.port p).replies ++ [reply] } with
    turn := nextPort p }

end Sys2Proof.Machine
end

