-- ==== Sys2Proof/Certificates/Slice0/Obligations.lean ====
section
/-! DEFINITION. The statements about the unit, for the provers. -/

open Sys2Proof Sys2Proof.Machine

/-! ### The machine as a whole -/

/-- A step takes the command at the front of the queue and answers what `exec` answers on the rest.
Model's choices: log entry 2. -/
def Obligations.StepRunsFrontCommand : Prop :=
  ∀ (s : State) (c : Instr) (rest : List Instr), s.pending = c :: rest →
    step s = exec c { s with pending := rest }

/-- On an empty queue the unit takes the event of its own that is due, or one tenth of a second passes. A tenth takes one
from every lifetime, cap, pause, retry wait, coast window, pulse gap, release timer, stale timer, spacing timer and restart
hold that runs, adds one to the run timer of a RUNNING drive, to its pulse, to the age of an observation and to a save in
flight, makes every line quiet, and changes nothing else; in the hold of a warm reset only the spacing timer and the save
run, and the lines fall quiet. With no bounds on their way the event due is the service of the port that the request
arbiter chooses, or, while no request waits, the step of the context it chooses; its choice is given case by case (01 R6,
R11, R14; 02 R37, R43; 03 R58, R62, R72; 04 R94, R95, R97; 05 R122, R124, R127; 06 R129, R131; 07 R155; 08 R173, R183; 10 R202).
The clock is the model's choice. Model's choices: log entries 2, 5, 6 and 8. -/
def Obligations.EmptyQueueRunsClock : Prop :=
  (∀ s : State, s.pending = [] →
    (∀ c, s.due = some c → step s = exec c s) ∧ (s.due = none → step s = .next s.tick)) ∧
  (∀ s : State, ArbiterCases s) ∧
  (∀ s : State, s.held = false → s.envelope.pushes = [] →
    (∀ p f c, s.nextServed = some p → (s.port p).inbound.head? = some f → serviceOf p f.kind = some c → s.due = some c) ∧
    (∀ c, s.nextServed = none → s.nextStepped = some c → s.due = some (match (s.sweep c).kind with
      | .set => .setStep c
      | .release => .releaseStep c
      | .home => .homeStep c
      | .scan => .scanStep c))) ∧
  ∀ s : State,
    let t := s.tick
    let less (n : Option Nat) : Option Nat := n.map (· - 1)
    let shorter (h : Option Held) : Option Held := h.map (fun h => { h with left := h.left - 1 })
    let store : Store := { s.store with save := s.store.save.map (fun v => { v with elapsed := v.elapsed + 1 }) }
    (∀ p, t.port p = { s.port p with quiet := true }) ∧
    (s.held = true →
      t = { s with
        arbiter := { s.arbiter with spacing := less s.arbiter.spacing }, store := store, ports := t.ports }) ∧
    (s.held = false →
      t = { s with
        drives := t.drives, ports := t.ports, store := store,
        arbiter := { s.arbiter with spacing := less s.arbiter.spacing, restart := less s.arbiter.restart },
        envelope := { s.envelope with
          age := (if s.envelope.observation.isSome = true then s.envelope.age + 1 else s.envelope.age),
          stale := less s.envelope.stale,
          release := ⟨less s.envelope.release.windward, less s.envelope.release.leeward⟩ } } ∧
      ∀ d, let m := (s.drive d).motion
        t.drive d = { s.drive d with
          demand := { (s.drive d).demand with
            panel := shorter (s.drive d).demand.panel, climate := shorter (s.drive d).demand.climate,
            cap := shorter (s.drive d).demand.cap },
          motion := { m with
            pause := m.pause.map (fun q => { q with left := q.left - 1 }),
            run := (if m.state = .running then m.run.map (fun r => match r with
                | .vent p => .vent { p with timer := p.timer + 1 }
                | .screen p => .screen p) else m.run),
            train := (if m.state = .running then m.train.map (fun w => { w with elapsed := w.elapsed + 1 }) else m.train),
            retryLeft := less m.retryLeft, pulseGap := less m.pulseGap,
            coast := m.coast.map (fun c => { c with left := c.left - 1 }) } })

/-- Every command has an effect in every state: no step stops, and none touches the commands that wait behind the one it
takes. Model's choices: log entries 1 and 30. -/
def Obligations.EveryCommandCompletes : Prop :=
  ∀ (c : Instr) (s : State), ∃ t, exec c s = .next t ∧ t.pending = s.pending

/-! ### Reset -/

/-- After a cold reset with the factory image, every card present and every contact at rest: each drive is UNUSED,
STOPPED at position 0 with knowledge UNKNOWN (01 R25, 04 R111), its stack is empty with target 0 (02 R54), the envelope
is STALE with held ceilings 1000 (03 R79), the start queue is empty with the restart hold running (05 R126), the fault
table is empty (06 R145), both contexts are IDLE (07 R167), and the ports are idle and empty (08 R186, 09 R199). The
factory image and the contacts are the model's choice (log entry 7). -/
def Obligations.ResetStateValues : Prop :=
  (∀ d : Drive, State.reset.setup d = {} ∧ (State.reset.drive d).book = { knowledge := .unknown } ∧
    (State.reset.drive d).motion.state = .stopped ∧ (State.reset.drive d).demand.lockout = false ∧
    (State.reset.drive d).demand.panel = none ∧ (State.reset.drive d).demand.climate = none ∧
    (State.reset.drive d).demand.cap = none ∧ (State.reset.drive d).demand.target = 0 ∧
    (State.reset.drive d).active = {} ∧ (State.reset.drive d).faults = {} ∧
    ∀ p, (State.reset.drive d).subs.get p = false) ∧
  State.reset.envelope.weather = .stale ∧ State.reset.envelope.observation = none ∧
  (∀ x, State.reset.envelope.held.get x = 1000) ∧ State.reset.envelope.frostFloor = 550 ∧
  State.reset.envelope.stale = some 3000 ∧
  State.reset.arbiter.queue = [] ∧ State.reset.arbiter.holders = [] ∧ State.reset.arbiter.spacing = none ∧
  State.reset.arbiter.restart = some 300 ∧ State.reset.faults = {} ∧
  (∀ c, (State.reset.sweep c).state = .idle ∧ (State.reset.sweep c).completion = none) ∧
  (∀ p, State.reset.port p = {}) ∧ State.reset.turn = .climate ∧ State.reset.pending = []

/-- The state after reset meets every invariant that the statements below say each step keeps.
Model's choices: log entry 7. -/
def Obligations.ResetMeetsInvariants : Prop :=
  State.reset.Safe ∧ State.reset.Settled ∧ State.reset.Resolved ∧ State.reset.InRange ∧ State.reset.QueueOk ∧
    State.reset.LockoutOk

/-! ### Invariants that every step keeps -/

/-- The queues of the ports keep their bounds (08 R170, 09 R195), the slot holders stay within the slot limit (05 R113), the
fault summary is that of the latched pairs (06 R141), the results of the sweeps bear different completion orders, each below
the next to be given (07 R151), and a stored image that passes its check bears its CRC (10 R201).
Model's choices: log entry 14. -/
def Obligations.StepKeepsBounds : Prop :=
  ∀ s t : State, s.Safe → step s = .next t → t.Safe

/-- Between two steps no event is half taken and no sweep waits for a drive at rest (07 R160, R161).
Model's choices: log entries 10, 11 and 28. -/
def Obligations.StepKeepsSettled : Prop :=
  ∀ s t : State, s.Settled → step s = .next t → t.Settled

/-- Every drive's target, governing source, bounds and conflict marker are at all times those of its entries and bounds,
by the rules of resolution (02 R44 to R47). -/
def Obligations.StepKeepsResolved : Prop :=
  ∀ s t : State, s.Resolved → step s = .next t → t.Resolved

/-- Positions, counts, accumulated travel, targets and bounds stay in their ranges, and only a VALVE carries a heat cap (01
R2, 02 R28, R41, R52, 03 R56). -/
def Obligations.StepKeepsRanges : Prop :=
  ∀ s t : State, s.InRange → step s = .next t → t.InRange

/-- The start queue holds one entry for each QUEUED drive and no other, in its order, each with an arrival of its own (04 R87,
05 R113, R114, R116, R117). -/
def Obligations.StepKeepsQueue : Prop :=
  ∀ s t : State, s.QueueOk → step s = .next t → t.QueueOk

/-- A drive under lockout is LOCKED, FAULTED or ABSENT after every step, so that neither of its outputs is energised (04
R82, R103). -/
def Obligations.StepKeepsLockoutSafe : Prop :=
  ∀ s t : State, s.Resolved → s.QueueOk → s.LockoutOk → step s = .next t →
    t.LockoutOk ∧ ∀ d dir, (t.drive d).demand.lockout = true → t.outputOn d dir = false

/-- In every state the output of its direction is on for a RUNNING drive, unless the unit is held in reset; the two outputs
of a drive are never energised together, those of a drive that is not RUNNING are off, and none is on while the unit is
held in reset (04 R82, 10 R205). Model's choices: log entry 8. -/
def Obligations.OutputsNeverTogether : Prop :=
  ∀ (s : State) (d : Drive), s.OutputsOk ∧
    (s.held = false → (s.drive d).motion.state = .running →
      s.outputOn d (s.drive d).motion.direction = true) ∧
    ((s.drive d).motion.state ≠ .running → ∀ dir, s.outputOn d dir = false) ∧
    (s.held = true → ∀ dir, s.outputOn d dir = false)

/-! ### Frames on the line -/

/-- The bytes of any frame, taken one by one by a receiver in HUNTING, give exactly that frame, complete with the last
byte, and leave the receiver in HUNTING; with any other CRC they give none. A receiver in HUNTING ignores every byte but
A5h, and a length above 120 returns it to HUNTING (08 R171, R187). -/
def Obligations.ReceiverReadsEveryFrame : Prop :=
  (∀ f : Frame, f.payload.length ≤ 120 →
    Receiver.hunting.feed f.bytes = (.hunting, [f]) ∧
    ∀ hi lo : Byte, byte2 (crc16 f.body).toNat ≠ [hi, lo] →
      Receiver.hunting.feed (startByte :: f.body ++ [hi, lo]) = (.hunting, [])) ∧
  (∀ bytes : List Byte, 0xA5#8 ∉ bytes → Receiver.hunting.feed bytes = (.hunting, [])) ∧
  ∀ n : Byte, 120 < n.toNat → Receiver.hunting.feed [0xA5#8, n] = (.hunting, [])

/-- Every record has the length and the contents the manual gives it: the drive status with its live demands (08 R189), the
envelope (08 R190), the context of a sweep (08 R191), the faults (06 R144), and the fields of the setups in their order (01
section 1.2; 08 R174, R181), and the target and governing source of a request that names a drive (08 R174); every enumerated
value and set is sent as 08 R188 says, and every outcome as 08 R176 says. A live demand shows at least 1 s (02 R28). -/
def Obligations.RecordLengths : Prop :=
  (∀ s : State,
    (∀ d, (s.driveStatus d).length = 24 + 5 * (s.drive d).demand.live.length ∧ (s.driveStatus d).length ≤ 39) ∧
    s.envelope.record.length = 31 ∧ (∀ c, ((s.sweep c).record c).length = 21) ∧ s.faultRecord.length = 101 ∧
    (∀ d, (s.setup d).record.length = 36) ∧ s.comp.record.length = 40) ∧
  (∀ (s : State) (d : Drive),
    let at_ := numberAt (s.driveStatus d)
    let r := s.drive d
    let m := r.demand
    at_ 0 1 = driveNumber d ∧ at_ 1 1 = (s.setup d).kind.code ∧ at_ 2 1 = r.motion.state.code ∧
    at_ 3 1 = r.motion.direction.code ∧ at_ 4 2 = s.livePosition d % 65536 ∧ at_ 6 1 = r.book.knowledge.code ∧
    at_ 7 2 = m.target % 65536 ∧ at_ 9 1 = m.governing.code ∧ at_ 10 2 = m.floor % 65536 ∧
    at_ 12 2 = m.ceiling % 65536 ∧ at_ 14 1 = flagNumber m.conflict ∧ at_ 15 1 = r.motion.retryCount % 256 ∧
    at_ 16 1 = r.active.code ∧ at_ 17 1 = r.faults.latched.code ∧ at_ 18 1 = flagNumber m.cap.isSome ∧
    (m.cap = none → at_ 19 2 = 0 ∧ at_ 21 2 = 0) ∧
    (∀ h, m.cap = some h → at_ 19 2 = h.value % 65536 ∧ at_ 21 2 = wholeSeconds h.left % 65536) ∧
    at_ 23 1 = m.listed.length ∧
    ∀ i x, m.listed[i]? = some x → at_ (24 + 5 * i) 1 = x.1 ∧ at_ (25 + 5 * i) 2 = x.2.1 % 65536 ∧
      at_ (27 + 5 * i) 2 = x.2.2 % 65536) ∧
  (∀ e : Envelope,
    let at_ := numberAt e.record
    let o := e.observation
    let release (x : Option Nat) := match x with
      | some n => wholeSeconds n % 65536
      | none => 65535
    at_ 0 1 = e.weather.code ∧
    (o = none → at_ 1 1 = 0 ∧ at_ 2 1 = 0 ∧ at_ 3 2 = 0 ∧ at_ 5 2 = 0 ∧ at_ 7 2 = 0 ∧ at_ 9 2 = 0 ∧ at_ 11 2 = 0) ∧
    (∀ x, o = some x →
      at_ 1 1 = 1 + 2 * flagNumber x.direction.isSome + 4 * flagNumber x.temp.isSome + 8 * flagNumber x.rain +
        16 * flagNumber x.snow ∧
      at_ 2 1 = x.mast % 256 ∧ at_ 3 2 = x.mean % 65536 ∧ at_ 5 2 = x.gust % 65536 ∧
      at_ 7 2 = x.direction.getD 0 % 65536 ∧ (at_ 9 2 : Int) = x.temp.getD 0 % 65536 ∧
      at_ 11 2 = min 65535 (e.age / 10)) ∧
    at_ 13 2 = e.effective.getD 0 % 65536 ∧ at_ 15 2 = e.computed.windward.getD 0 % 65536 ∧
    at_ 17 2 = e.computed.leeward.getD 0 % 65536 ∧ at_ 19 2 = e.held.windward % 65536 ∧
    at_ 21 2 = e.held.leeward % 65536 ∧ at_ 23 2 = release e.release.windward ∧
    at_ 25 2 = release e.release.leeward ∧ at_ 27 1 = flagNumber e.rain + 2 * flagNumber e.snow ∧
    at_ 28 2 = e.frostFloor % 65536 ∧ at_ 30 1 = 0) ∧
  (∀ (x : SweepCtx) (c : Context),
    let at_ := numberAt (x.record c)
    at_ 0 1 = contextNumber c ∧ at_ 1 1 = x.state.code ∧ at_ 2 1 = flagNumber x.completion.isSome ∧
    at_ 3 1 = portCode x.owner ∧ at_ 4 1 = x.kind.code ∧ at_ 5 1 = x.group % 256 ∧ at_ 6 1 = x.order.code ∧
    at_ 7 2 = x.value % 65536 ∧ at_ 9 1 = flagNumber x.wait ∧ at_ 10 1 = x.condition.code ∧
    at_ 11 2 = x.tolerance % 65536 ∧ at_ 13 1 = x.members.length % 256 ∧ at_ 14 1 = x.nextIndex.getD 0 % 256 ∧
    at_ 15 1 = x.inHand.getD 0 % 256 ∧ at_ 16 1 = x.processed % 256 ∧ at_ 17 1 = x.skipped % 256 ∧
    at_ 18 1 = x.markers.code ∧ at_ 19 1 = x.foundPlace.getD 0 % 256 ∧
    at_ 20 1 = (x.foundDrive.map driveNumber).getD 0) ∧
  (∀ s : State,
    let at_ := numberAt s.faultRecord
    at_ 0 1 = (s.faults.summary.kind.map FaultKind.code).getD 0 ∧
    at_ 1 1 = (s.faults.summary.drive.map driveNumber).getD 0 ∧ at_ 2 1 = flagNumber s.faults.summary.multiple ∧
    at_ 3 1 = flagNumber s.faults.staleActive + 2 * flagNumber s.faults.storeActive ∧
    at_ 4 1 = flagNumber s.faults.staleLatched + 2 * flagNumber s.faults.storeLatched ∧
    ∀ d : Drive, at_ (5 + 4 * d.val) 1 = (s.drive d).active.code ∧
      at_ (6 + 4 * d.val) 1 = (s.drive d).faults.latched.code ∧
      at_ (7 + 4 * d.val) 1 = (s.drive d).faults.tripCount % 256 ∧
      at_ (8 + 4 * d.val) 1 = (s.drive d).motion.retryCount % 256) ∧
  (∀ u : Setup, ∀ n v, u.fields[n]? = some v → numberAt u.record (2 * n) 2 = v % 65536) ∧
  (∀ c : Compartment, ∀ n v, c.fields[n]? = some v → (numberAt c.record (2 * n) 2 : Int) = v % 65536) ∧
  (∀ u : Setup, u.fields = [u.kind.code, u.strokeOpen, u.strokeClose, u.startLag, u.pps, u.stallGap,
    u.facing.getD 0xFFFF, flagNumber u.closedSwitch, flagNumber u.openSwitch, u.deadband, u.overrun, u.reversalPause,
    u.pulseOn, u.pulseOff, u.noticeInterval, u.fallback.getD 0xFFFF, u.retryBase, u.retryLimit]) ∧
  (∀ c : Compartment, c.fields = ([c.slotLimit, c.startSpacing, c.climateLifetime, c.windwardLo, c.windwardHi,
    c.leewardLo, c.leewardHi, c.rainCeiling, c.snowValveFloor, c.frostStart, c.frostFull, c.frostMaxFloor,
    c.releaseDelay, c.staleTimeout, c.staleVentCeiling, c.mastId, c.jogStep, c.restartHold, c.rereferenceDistance,
    c.endSnapBand] : List Int)) ∧
  ([Kind.vent, .screen, .valve, .unused].map Kind.code = [0, 1, 2, 3] ∧
   [MotionState.stopped, .queued, .running, .pausing, .retryWait, .faulted, .locked, .absent].map MotionState.code =
     [0, 1, 2, 3, 4, 5, 6, 7] ∧
   [Direction.opening, .closing].map Direction.code = [0, 1] ∧
   [Knowledge.unknown, .estimated, .referenced].map Knowledge.code = [0, 1, 2] ∧
   [Source.lockout, .panel, .climate, .fallback].map Source.code = [0, 1, 2, 3] ∧
   [Port.climate, .heat, .panel].map portCode = [0, 1, 2] ∧
   [FaultKind.ofDrive .bothEnds, .ofDrive .wrongEnd, .ofDrive .tripLimit, .ofDrive .cardAbsent, .ofDrive .stall,
     .ofDrive .trip, .ofDrive .endSwitchMissed, .ofCompartment .weatherStale, .ofCompartment .storeInvalid].map
     FaultKind.code = [1, 2, 3, 4, 5, 6, 7, 8, 9] ∧
   [SweepKind.set, .release, .home, .scan].map SweepKind.code = [0, 1, 2, 3] ∧
   [SweepOrder.forward, .reverse].map SweepOrder.code = [0, 1] ∧
   [SweepState.idle, .stepping, .waiting].map SweepState.code = [0, 1, 2] ∧
   [Condition.offTarget, .notReferenced, .faulted, .moving].map Condition.code = [0, 1, 2, 3] ∧
   [Weather.current, .stale].map Weather.code = [0, 1] ∧
   [Result.done, .notPermitted, .badDrive, .badValue, .busy, .locked, .absent].map Result.code = [0, 1, 2, 3, 4, 5, 6]) ∧
  (∀ (s : State) (d : Drive), (s.targetRecord d).length = 3 ∧
    numberAt (s.targetRecord d) 0 2 = (s.drive d).demand.target % 65536 ∧
    numberAt (s.targetRecord d) 2 1 = (s.drive d).demand.governing.code) ∧
  (∀ f : FaultSet, f.code = flagNumber f.bothEnds + 2 * flagNumber f.wrongEnd + 4 * flagNumber f.tripLimit +
    8 * flagNumber f.cardAbsent + 16 * flagNumber f.stall + 32 * flagNumber f.trip + 64 * flagNumber f.endSwitchMissed) ∧
  ∀ m : Markers, m.code = flagNumber m.found + 2 * flagNumber m.exhausted + 4 * flagNumber m.skippedSome +
    8 * flagNumber m.cancelled

/-- A setup write is taken whole. Each named field is checked against the range of the table for the kind that the record
will have, and the checks across fields against the values as they will stand; each named field is read back as sent, and
each other field keeps its value, or takes its default for the new kind where the write changes the kind. The defaults are
those of the tables (01 section 1.2, R3, R4; 03 R75; 08 R174, R181, R188). -/
def Obligations.SetupFieldsReadBack : Prop :=
  (∀ (k : Kind) (u : Setup) (field v : Nat), Setup.fieldOk k field v = true →
    (u.setField field v).fields[field - 1]? = some v ∧
    ∀ other, 1 ≤ other → other ≠ field → (u.setField field v).fields[other - 1]? = u.fields[other - 1]?) ∧
  (∀ (c : Compartment) (field : Nat) (v : Int), Compartment.fieldOk field v = true →
    (c.setField field v).fields[field - 1]? = some v ∧
    ∀ other, 1 ≤ other → other ≠ field → (c.setField field v).fields[other - 1]? = c.fields[other - 1]?) ∧
  (∀ k field v, Setup.fieldOk k field v = true ↔ driveRange k field v) ∧
  (∀ field v, Compartment.fieldOk field v = true ↔ compartmentRange field v) ∧
  (∀ (u : Setup) (items : List (Nat × Nat)) (k : Kind), (items.map Prod.fst).Nodup →
    ((1, k.code) ∈ items ∨ ((∀ i ∈ items, i.1 ≠ 1) ∧ k = u.kind)) →
    let v := u.after items
    (u.writeOk items = true ↔
      (∀ i ∈ items, driveRange k i.1 i.2) ∧ (k = .valve → v.startLag < v.pulseOn)) ∧
    ((∀ i ∈ items, driveRange k i.1 i.2) → v.kind = k ∧ (∀ i ∈ items, v.fields[i.1 - 1]? = some i.2) ∧
      ∀ field, 1 ≤ field → (∀ i ∈ items, i.1 ≠ field) →
        v.fields[field - 1]? = (if k = u.kind then u else Setup.defaults k).fields[field - 1]?)) ∧
  (∀ (u : Setup) (items : List (Nat × Nat)), (∃ i ∈ items, i.1 = 1 ∧ 3 < i.2) → u.writeOk items = false) ∧
  (∀ (c : Compartment) (items : List (Nat × Int)), (items.map Prod.fst).Nodup →
    let v := c.after items
    (c.writeOk items = true ↔ (∀ i ∈ items, compartmentRange i.1 i.2) ∧ v.windwardLo < v.windwardHi ∧
      v.leewardLo < v.leewardHi ∧ v.frostFull < v.frostStart) ∧
    ((∀ i ∈ items, compartmentRange i.1 i.2) → (∀ i ∈ items, v.fields[i.1 - 1]? = some i.2) ∧
      ∀ field, 1 ≤ field → (∀ i ∈ items, i.1 ≠ field) → v.fields[field - 1]? = c.fields[field - 1]?)) ∧
  (∀ k : Kind, (Setup.defaults k).fields = [k.code, 1200, 1200, if k = .valve then 0 else 10, 4800, 15, 0xFFFF, 1, 1, 10,
    10, 20, 20, 100, if k = .valve then 4 else 100,
    (match k with
      | .vent | .unused => 0
      | .screen => 0xFFFF
      | .valve => 300), 30, 4]) ∧
  ({} : Setup) = Setup.defaults .unused ∧
  ({} : Compartment).fields =
    [3, 5, 6000, 40, 100, 70, 150, 150, 400, 20, -100, 550, 3000, 3000, 200, 1, 20, 300, 5000, 50]

/-! ### Requests that place and remove demands -/

/-- SET_DEMAND from CLIMATE or PANEL on a drive in use places the port's entry with the clamped value and the lifetime of
its source, resolves the drive and is answered DONE with the target and governing source. A new target outside a lockout
is handed to the drive controller: a STOPPED drive queues, starts a train or stays, a QUEUED one decides again, a run or
train in hand is re-planned, retargeted, stopped within deadband or reversed, and a homing, a pause, a retry wait and
FAULTED go on; without an event at the start arbiter, as for a VALVE, no grant follows (01 R10; 02 R29 to R31, R44 to R51;
04 R86 to R88, R91, R95, R96, R99 to R101, R106; 05 R114 to R118, R122, R125). Model's choices: log entries 3, 29, 32 and
46. -/
def Obligations.SetDemandPlacesEntry : Prop :=
  ∀ (s : State) (p : Port) (d : Drive) (v : Nat) (minutes : Option Nat) (tag : Byte),
    p ≠ .heat → v < 65536 → (∀ m, minutes = some m → m < 65536) →
    let f : Frame := { kind := 0x01#8, tag := tag, payload := byte1 (driveNumber d) ++ byte2 v ++
      (match minutes with | none => [] | some m => byte2 m) }
    s.ServesNext p f → (s.setup d).kind ≠ .unused → (s.drive d).motion.state ≠ .absent →
    let old := (s.drive d).demand
    let entries : Demand := if p = .climate
      then { old with climate := some { value := min 1000 v, left := s.comp.climateLifetime } }
      else { old with panel := some { value := min 1000 v,
                                      left := match minutes with | none => 36000 | some m => 600 * max 1 (min 240 m) } }
    ∃ t, exec (.setDemand p) s = .next t ∧ Answered p (replyFrame f .done (t.targetRecord d)) s t ∧
      ActsOn (· = d) (· = d) s t ∧ Redemanded d entries s t ∧ Retargeted d s t

/-- RELEASE_DEMAND removes the entry of the port's own source and resolves the drive; without one it is answered DONE and
nothing changes. A new target is handed to the drive controller as for SET_DEMAND (02 R29, R32, R50; 04 R86, R88, R91, R96,
R99 to R101, R106). Model's choices: log entries 3, 29, 32 and 46. -/
def Obligations.ReleaseDemandRemovesEntry : Prop :=
  ∀ (s : State) (p : Port) (d : Drive) (tag : Byte), p ≠ .heat →
    let f : Frame := { kind := 0x02#8, tag := tag, payload := byte1 (driveNumber d) }
    s.ServesNext p f → (s.setup d).kind ≠ .unused → (s.drive d).motion.state ≠ .absent →
    let old := (s.drive d).demand
    let own := if p = .climate then old.climate else old.panel
    (own.isSome = true → ∃ t, exec (.releaseDemand p) s = .next t ∧
      Answered p (replyFrame f .done (t.targetRecord d)) s t ∧ ActsOn (· = d) (· = d) s t ∧
      Redemanded d (if p = .climate then { old with climate := none } else { old with panel := none }) s t ∧
      Retargeted d s t) ∧
    (own = none → s.Settled →
      exec (.releaseDemand p) s = .next (s.afterService p (replyFrame f .done (s.targetRecord d))))

/-- JOG from PANEL places a PANEL entry at the effective target moved by jog_step and clamped, for 60 minutes, and
resolves the drive. A new target is handed to the drive controller as for SET_DEMAND (02 R29, R33, R50; 04 R86, R88, R91,
R96, R99 to R101, R106). Model's choices: log entries 3, 29, 32 and 46. -/
def Obligations.JogMovesPanelEntry : Prop :=
  ∀ (s : State) (d : Drive) (dir : Direction) (tag : Byte),
    let f : Frame := { kind := 0x03#8, tag := tag, payload := byte1 (driveNumber d) ++ byte1 dir.code }
    s.ServesNext .panel f → (s.setup d).kind ≠ .unused → (s.drive d).motion.state ≠ .absent →
    (s.drive d).demand.lockout = false →
    let old := (s.drive d).demand
    let v := match dir with
      | .opening => min 1000 (old.target + s.comp.jogStep)
      | .closing => min 1000 (old.target - s.comp.jogStep)
    ∃ t, exec (.jog .panel) s = .next t ∧ Answered .panel (replyFrame f .done (t.targetRecord d)) s t ∧
      ActsOn (· = d) (· = d) s t ∧ Redemanded d { old with panel := some { value := v, left := 36000 } } s t ∧
      Retargeted d s t

/-- A PANEL demand over a governing CLIMATE entry names PANEL in the CLIMATE displacement record and marks DISPLACED
pending on the CLIMATE port; a change of target, source or marker marks DRIVE_STATE for the drive's subscribers (02 R50,
R51, 09 R196). Model's choices: log entries 3 and 29. -/
def Obligations.PanelDisplacesClimate : Prop :=
  ∀ (s : State) (d : Drive) (v : Nat) (tag : Byte), v < 65536 →
    let f : Frame := { kind := 0x01#8, tag := tag, payload := byte1 (driveNumber d) ++ byte2 v }
    s.ServesNext .panel f → (s.setup d).kind ≠ .unused → (s.drive d).motion.state ≠ .absent →
    (s.drive d).demand.governing = .climate → (s.drive d).demand.climate.isSome = true →
    (s.drive d).demand.lockout = false →
    ∃ t, exec (.setDemand .panel) s = .next t ∧ (t.drive d).demand.governing = .panel ∧
      (t.drive d).demand.climate = (s.drive d).demand.climate ∧
      (t.drive d).demand.displacedClimate = some .panel ∧ Subject.displaced d ∈ (t.port .climate).notices ∧
      ∀ p, (s.drive d).subs.get p = true → Subject.driveState d ∈ (t.port p).notices

/-- LOCKOUT_ON places the LOCKOUT entry, sets the target to the position at that moment, stops the drive there and asks for
a save; a PANEL or CLIMATE entry that governed is displaced, its record naming LOCKOUT, and DISPLACED is pending on its own
port; a drive that has the entry is left as it is (02 R34, R48, R51, 04 R103, 09 R196, 10 R203).
Model's choices: log entries 3, 29 and 41. -/
def Obligations.LockoutOnStopsDrive : Prop :=
  ∀ (s : State) (d : Drive) (tag : Byte),
    let f : Frame := { kind := 0x04#8, tag := tag, payload := byte1 (driveNumber d) }
    s.ServesNext .panel f → (s.setup d).kind ≠ .unused →
    ((s.drive d).demand.lockout = false → s.Resolved → s.QueueOk →
      ∃ t, exec (.lockoutOn .panel) s = .next t ∧ Answered .panel (replyFrame f .done (t.targetRecord d)) s t ∧
        DrivesOnly (· = d) (· = d) s t ∧ SweepsSame s t ∧ AskedSave s t ∧
        Redemanded d { (s.drive d).demand with lockout := true } s t ∧
        ((s.drive d).demand.governing = .panel → (t.drive d).demand.displacedPanel = some .lockout ∧
          Subject.displaced d ∈ (t.port .panel).notices) ∧
        ((s.drive d).demand.governing = .climate → (t.drive d).demand.displacedClimate = some .lockout ∧
          Subject.displaced d ∈ (t.port .climate).notices) ∧
        (t.drive d).motion.homeMarker = false ∧ (t.drive d).motion.retryCount = (s.drive d).motion.retryCount ∧
        (t.drive d).motion.state = (match (s.drive d).motion.state with
          | .faulted => .faulted
          | .absent => .absent
          | _ => .locked) ∧
        ((s.drive d).motion.state = .running →
          (t.drive d).book.position = s.livePosition d ∧ d ∉ t.arbiter.holders)) ∧
    ((s.drive d).demand.lockout = true → s.Settled →
      exec (.lockoutOn .panel) s = .next (s.afterService .panel (replyFrame f .done (s.targetRecord d))))

/-- LOCKOUT_OFF removes the LOCKOUT entry of any drive, resolves it and asks for a save; a LOCKED drive that does not seek
motion becomes STOPPED; a drive without the entry is left as it is (02 R35, 04 R104, 10 R203).
Model's choices: log entries 3, 29 and 41. -/
def Obligations.LockoutOffReleasesDrive : Prop :=
  ∀ (s : State) (d : Drive) (tag : Byte),
    let f : Frame := { kind := 0x05#8, tag := tag, payload := byte1 (driveNumber d) }
    s.ServesNext .panel f →
    ((s.drive d).demand.lockout = true →
      ∃ t, exec (.lockoutOff .panel) s = .next t ∧ Answered .panel (replyFrame f .done (t.targetRecord d)) s t ∧
        DrivesOnly (· = d) (· = d) s t ∧ SweepsSame s t ∧ AskedSave s t ∧
        Redemanded d { (s.drive d).demand with lockout := false } s t ∧
        (s.Resolved → s.QueueOk → (s.drive d).motion.state = .locked →
          (seeks (s.setup d) { s.drive d with demand := (t.drive d).demand } = false →
            (t.drive d).motion.state = .stopped) ∧
          (seeks (s.setup d) { s.drive d with demand := (t.drive d).demand } = true → (s.setup d).kind ≠ .valve →
            s.arbiter.restart.isSome = true → (t.drive d).motion.state = .queued ∧ d ∈ t.waiting))) ∧
    ((s.drive d).demand.lockout = false → s.Settled →
      exec (.lockoutOff .panel) s = .next (s.afterService .panel (replyFrame f .done (s.targetRecord d))))

/-! ### Heat caps -/

/-- SET_CAP from HEAT caps every VALVE of the group that is not ABSENT with the clamped value and lifetime, resolves each,
and is answered DONE with the counts of members capped and ignored; no governing source changes and nothing is displaced;
a new target is handed to the drive controller of each; a group outside 0 to 12 is refused with BAD_VALUE (02 R41, R50; 04
R86, R96, R99 to R101, R106). Model's choices: log entries 3, 29, 32, 35 and 46. -/
def Obligations.SetCapCapsValves : Prop :=
  ∀ (s : State) (g v : Nat) (life : Option Nat) (tag : Byte), g < 256 → v < 65536 → (∀ m, life = some m → m < 4294967296) →
    let f : Frame := { kind := 0x06#8, tag := tag, payload := byte1 g ++ byte2 v ++
      (match life with | none => [] | some m => byte2 (m / 65536) ++ byte2 m) }
    s.ServesNext .heat f →
    let members := s.groupMembers g
    let capped := members.filter (fun d => (s.setup d).kind == .valve && (s.drive d).motion.state != .absent)
    let cap : Held := { value := min 1000 v,
                        left := match life with | none => 9000 | some m => max 600 (min 72000 m) }
    (12 < g → s.Settled → exec (.setCap .heat) s = .next (s.afterService .heat (replyFrame f .badValue []))) ∧
    (g ≤ 12 → ∃ t, exec (.setCap .heat) s = .next t ∧
      Answered .heat (replyFrame f .done (byte1 capped.length ++ byte1 (members.length - capped.length))) s t ∧
      ActsOn (· ∈ capped) (· ∈ capped) s t ∧
      ∀ d, d ∈ capped → Demand.SameEntries { (s.drive d).demand with cap := some cap } (t.drive d).demand ∧
        (t.drive d).demand.Resolved (s.setup d).fallback ∧ Retargeted d s t ∧
        (s.Resolved → (t.drive d).demand.governing = (s.drive d).demand.governing ∧
          (t.drive d).demand.displacedClimate = (s.drive d).demand.displacedClimate ∧
          (t.drive d).demand.displacedPanel = (s.drive d).demand.displacedPanel))

/-- RELEASE_CAP from HEAT removes the cap of every member of the group that carries one, resolves each, and is answered DONE
with the count of caps removed; a new target is handed to the drive controller of each, where, as in every state that
StepKeepsRanges speaks of, only VALVEs carry caps; a group outside 0 to 12 is refused with BAD_VALUE (02 R42, R50; 04 R86, R96,
R99 to R101, R106). Model's choices: log entries 3, 29, 32 and 46. -/
def Obligations.ReleaseCapRemovesCaps : Prop :=
  ∀ (s : State) (g : Nat) (tag : Byte), g < 256 →
    let f : Frame := { kind := 0x07#8, tag := tag, payload := byte1 g }
    s.ServesNext .heat f →
    let capped := (s.groupMembers g).filter (fun d => (s.drive d).demand.cap.isSome)
    (12 < g → s.Settled → exec (.releaseCap .heat) s = .next (s.afterService .heat (replyFrame f .badValue []))) ∧
    (g ≤ 12 →
      ∃ t, exec (.releaseCap .heat) s = .next t ∧
        Answered .heat (replyFrame f .done (byte1 capped.length)) s t ∧
        ActsOn (· ∈ capped) (· ∈ capped) s t ∧
        ∀ d, d ∈ capped → Demand.SameEntries { (s.drive d).demand with cap := none } (t.drive d).demand ∧
          (t.drive d).demand.Resolved (s.setup d).fallback ∧
          ((∀ k ∈ capped, (s.setup k).kind = .valve) → Retargeted d s t))

/-! ### HOME, RESET_DRIVE and ACK_FAULTS -/

/-- HOME sets the home request marker and acts by the motion state it finds, each row of the table of 04 R102; no demand
changes (04 R86 to R88, R95, R97, R102; 05 R114 to R118). Model's choices: log entries 3, 29, 32 and 37. -/
def Obligations.HomeActsByState : Prop :=
  ∀ (s : State) (p : Port) (d : Drive) (tag : Byte), p ≠ .heat →
    let f : Frame := { kind := 0x08#8, tag := tag, payload := byte1 (driveNumber d) }
    s.ServesNext p f → (s.setup d).kind ≠ .unused → (s.drive d).motion.state ≠ .absent →
    (s.drive d).demand.lockout = false → s.QueueOk →
    ∃ t, exec (.home p) s = .next t ∧ Answered p (replyFrame f .done (s.targetRecord d)) s t ∧
      ActsOn (· = d) (fun _ => False) s t ∧ Homed d s t

/-- RESET_DRIVE on a FAULTED drive clears the retry count and the missed end, lowers the knowledge, and ends FAULTED unless
both switches are active; the drive is resolved, is LOCKED under lockout, and otherwise makes its decision from STOPPED; only
a start that an open trip contact turns into a trip counts a retry again. Another drive changes only where a grant reaches
it in the start queue. On a drive that is not FAULTED it is answered DONE and nothing changes (04 R86, R87; 05 R114, R118; 06
R128, R137, R138). Model's choices: log entries 3 and 29. -/
def Obligations.ResetDriveEndsFaulted : Prop :=
  ∀ (s : State) (p : Port) (d : Drive) (tag : Byte), p ≠ .heat →
    let f : Frame := { kind := 0x09#8, tag := tag, payload := byte1 (driveNumber d) }
    s.ServesNext p f → (s.drive d).motion.state ≠ .absent →
    ((s.drive d).motion.state ≠ .faulted → s.Settled →
      exec (.resetDrive p) s = .next (s.afterService p (replyFrame f .done (s.targetRecord d)))) ∧
    ((s.drive d).motion.state = .faulted → s.Resolved → s.QueueOk →
      ∃ t, exec (.resetDrive p) s = .next t ∧ Answered p (replyFrame f .done (t.targetRecord d)) s t ∧
        ActsOn (· = d) (· = d) s t ∧ (t.drive d).book.position = (s.drive d).book.position ∧
        (t.drive d).motion.missedEnd = none ∧
        (s.bothOn d = true ∨ (s.drive d).pins.tripOpen = false → (t.drive d).motion.retryCount = 0) ∧
        (t.drive d).faults.latched.has .bothEnds =
          ((s.drive d).faults.latched.has .bothEnds || s.bothOn d) ∧
        (s.bothOn d = true → (t.drive d).motion.state = .faulted ∧ (t.drive d).motion.cause = some .bothEnds ∧
          (t.drive d).book.knowledge = .unknown ∧ (t.drive d).motion.retryCount = 0) ∧
        (s.bothOn d = false →
          Redemanded d (s.drive d).demand s t ∧
          (t.drive d).book.knowledge =
            (if (s.drive d).book.knowledge = .unknown then .unknown else .estimated) ∧
          ((s.drive d).demand.lockout = true → (t.drive d).motion.state = .locked ∧ (t.drive d).motion.cause = none ∧
            (t.drive d).motion.retryCount = 0 ∧ (t.drive d).motion.homeMarker = false) ∧
          ((s.drive d).demand.lockout = false →
            let r : DriveRec := { s.drive d with
              book := { (s.drive d).book with knowledge := (t.drive d).book.knowledge },
              motion := { (s.drive d).motion with missedEnd := none },
              demand := (t.drive d).demand }
            (seeks (s.setup d) r = false → (t.drive d).motion.state = .stopped ∧ (t.drive d).motion.cause = none ∧
              (t.drive d).motion.retryCount = 0) ∧
            (seeks (s.setup d) r = true → (s.setup d).kind ≠ .valve → s.arbiter.restart.isSome = true →
              (t.drive d).motion.state = .queued ∧ d ∈ t.waiting ∧ (t.drive d).motion.retryCount = 0) ∧
            ((s.drive d).motion.pause = none → (s.drive d).motion.retryLeft = none →
              Decided d (s.setDrive d { r with motion := { r.motion with
                state := .stopped, retryCount := 0, cause := none } }) t))))

/-- ACK_FAULTS clears every latched kind that is not active and every trip count, computes the summary again and marks
FAULT_SUMMARY on all ports if it changed; no motion record, position book or demand changes. The summary of any latched pairs
is given case by case: the highest-priority kind, its lowest drive, and MULTIPLE for more than one pair (06 R139, R141 to R143).
Model's choices: log entries 3 and 29. -/
def Obligations.AckFaultsClearsInactive : Prop :=
  (∀ s : State, SummaryCases s (summaryOf s.latchedPairs)) ∧
  ∀ (s : State) (p : Port) (tag : Byte), p ≠ .heat →
    let f : Frame := { kind := 0x0D#8, tag := tag, payload := [] }
    s.ServesNext p f → s.Settled →
    ∃ t, exec (.ackFaults p) s = .next t ∧ Answered p (replyFrame f .done []) s t ∧
      (∀ d, t.drive d = { s.drive d with
        faults := { (s.drive d).faults with
          latched := (s.drive d).faults.latched.inter (s.drive d).active, tripCount := 0 } }) ∧
      t.faults.staleLatched = (s.faults.staleLatched && s.faults.staleActive) ∧
      t.faults.storeLatched = (s.faults.storeLatched && s.faults.storeActive) ∧
      t.faults.staleActive = s.faults.staleActive ∧ t.faults.storeActive = s.faults.storeActive ∧
      t.faults.summary = summaryOf t.latchedPairs ∧
      (t.faults.summary ≠ s.faults.summary → ∀ q, Subject.faultSummary ∈ (t.port q).notices) ∧
      (∀ d, (t.drive d).faults.latched ≠ (s.drive d).faults.latched → ∀ q, (s.drive d).subs.get q = true →
        Subject.driveState d ∈ (t.port q).notices) ∧
      t.settings = s.settings ∧ t.store = s.store ∧ t.envelope = s.envelope ∧ t.arbiter = s.arbiter ∧
      t.sweeps = s.sweeps ∧ t.held = s.held ∧ t.pending = s.pending

/-! ### Requests that are refused -/

/-- A request from a port that may not send its kind is answered NOT_PERMITTED, and one whose payload has no length its
kind allows, a setup write that names a field twice or one that its record lacks, or a WRITE_GROUP whose length is not 3 plus
its label length plus its member count, BAD_VALUE (08 R174, R175 steps 1 and 2). START_SWEEP is refused by its own checks in their order (07 R153), SUBSCRIBE and UNSUBSCRIBE for a bad subject or
number (08 R179), and a WRITE_DRIVE_SETUP that fits for a bad drive number (08 R180). Each changes nothing.
Model's choices: log entries 3 and 29. -/
def Obligations.ForbiddenOrMalformedRefused : Prop :=
  (∀ (s : State) (p : Port) (f : Frame) (c : Instr), s.Settled → s.ServesNext p f → serviceOf p f.kind = some c →
    (permitted p f.kind = false → exec c s = .next (s.afterService p (replyFrame f .notPermitted []))) ∧
    (permitted p f.kind = true → lengthAllowed f.kind f.payload.length = false →
      exec c s = .next (s.afterService p (replyFrame f .badValue [])))) ∧
  (∀ (s : State) (p : Port) (k g o w q : Byte) (v tol : Nat) (tag : Byte), s.Settled → tol < 65536 →
    let f : Frame := { kind := 0x10#8, tag := tag, payload := [k, g, o] ++ byte2 v ++ [w, q] ++ byte2 tol }
    s.ServesNext p f →
    (p = .heat → k ≠ 3#8 → exec (.startSweep p) s = .next (s.afterService p (replyFrame f .notPermitted []))) ∧
    ((p = .heat → k = 3#8) →
      12 < g.toNat ∨ 3 < k.toNat ∨ 1 < o.toNat ∨ (k = 3#8 ∧ (3 < q.toNat ∨ (q = 0#8 ∧ 1000 < tol))) →
      exec (.startSweep p) s = .next (s.afterService p (replyFrame f .badValue [])))) ∧
  (∀ (s : State) (p : Port) (kind subject number tag : Byte) (c : Instr), s.Settled →
    let f : Frame := { kind := kind, tag := tag, payload := [subject, number] }
    s.ServesNext p f → (kind = 0x0E#8 ∧ c = .subscribe p) ∨ (kind = 0x0F#8 ∧ c = .unsubscribe p) →
    (subject = 0#8 → number.toNat = 0 ∨ 24 < number.toNat →
      exec c s = .next (s.afterService p (replyFrame f .badDrive []))) ∧
    ((subject = 1#8 ∧ 12 < number.toNat) ∨ 2 < subject.toNat →
      exec c s = .next (s.afterService p (replyFrame f .badValue [])))) ∧
  (∀ (s : State) (p : Port) (n tag : Byte) (items : List (Nat × Nat)), s.Settled → p ≠ .heat →
    1 ≤ items.length → items.length ≤ 18 → (∀ i ∈ items, i.1 < 256) →
    let f : Frame := { kind := 0x13#8, tag := tag, payload := n :: items.flatMap (fun i => byte1 i.1 ++ byte2 i.2) }
    s.ServesNext p f →
    let fit := (∀ i ∈ items, 1 ≤ i.1 ∧ i.1 ≤ 18) ∧ (items.map Prod.fst).Nodup
    (¬ fit → exec (.writeDriveSetup p) s = .next (s.afterService p (replyFrame f .badValue []))) ∧
    (fit → n.toNat = 0 ∨ 24 < n.toNat →
      exec (.writeDriveSetup p) s = .next (s.afterService p (replyFrame f .badDrive [])))) ∧
  (∀ (s : State) (p : Port) (tag g n : Byte) (rest : List Byte), s.Settled → p ≠ .heat →
    let f : Frame := { kind := 0x14#8, tag := tag, payload := g :: n :: rest }
    s.ServesNext p f → (∀ m, rest[n.toNat]? = some m → (g :: n :: rest).length ≠ 3 + n.toNat + m.toNat) →
    exec (.writeGroup p) s = .next (s.afterService p (replyFrame f .badValue []))) ∧
  ∀ (s : State) (p : Port) (tag : Byte) (items : List (Nat × Nat)), s.Settled → p ≠ .heat →
    1 ≤ items.length → items.length ≤ 20 → (∀ i ∈ items, i.1 < 256) →
    let f : Frame := { kind := 0x15#8, tag := tag, payload := items.flatMap (fun i => byte1 i.1 ++ byte2 i.2) }
    s.ServesNext p f →
    ¬ ((∀ i ∈ items, 1 ≤ i.1 ∧ i.1 ≤ 20) ∧ (items.map Prod.fst).Nodup) →
    exec (.writeCompartmentSetup p) s = .next (s.afterService p (replyFrame f .badValue []))

/-- The checks of a request that names one drive, in their order: BAD_VALUE for a JOG whose direction is neither 0 nor 1,
whatever its drive, BAD_DRIVE for a number outside 1 to 24 or an UNUSED drive, ABSENT, LOCKED; each refusal changes nothing
(02 R29, 04 R102, 06 R137, 08 R177, R178). Model's choices: log entries 3 and 29. -/
def Obligations.DriveChecksInOrder : Prop :=
  (∀ (s : State) (n dir tag : Byte), s.Settled → 1 < dir.toNat →
    let f : Frame := { kind := 0x03#8, tag := tag, payload := [n, dir] }
    s.ServesNext .panel f → exec (.jog .panel) s = .next (s.afterService .panel (replyFrame f .badValue []))) ∧
  ∀ (s : State) (p : Port) (f : Frame) (c : Instr) (n : Byte), s.Settled → s.ServesNext p f →
    serviceOf p f.kind = some c → permitted p f.kind = true → lengthAllowed f.kind f.payload.length = true →
    f.payload.head? = some n → (f.kind = 0x03#8 → f.payload.getLast? = some 0#8 ∨ f.payload.getLast? = some 1#8) →
    ([1, 2, 3, 4, 5, 8, 9, 10, 23].contains f.kind.toNat = true → n.toNat = 0 ∨ 24 < n.toNat →
      exec c s = .next (s.afterService p (replyFrame f .badDrive []))) ∧
    ∀ d : Drive, n.toNat = driveNumber d →
      ([1, 2, 3, 4, 8].contains f.kind.toNat = true → (s.setup d).kind = .unused →
        exec c s = .next (s.afterService p (replyFrame f .badDrive []))) ∧
      ([1, 2, 3, 8].contains f.kind.toNat = true → (s.setup d).kind ≠ .unused →
        (s.drive d).motion.state = .absent → exec c s = .next (s.afterService p (replyFrame f .absent []))) ∧
      (f.kind = 0x09#8 → (s.drive d).motion.state = .absent →
        exec c s = .next (s.afterService p (replyFrame f .absent []))) ∧
      (f.kind = 0x03#8 ∨ f.kind = 0x08#8 → (s.setup d).kind ≠ .unused → (s.drive d).motion.state ≠ .absent →
        (s.drive d).demand.lockout = true → exec c s = .next (s.afterService p (replyFrame f .locked [])))

/-! ### Reads -/

/-- The reads of a drive, of a drive setup, of the envelope, of the faults and of the compartment setup are answered with
their records, and change nothing (03 R78, 06 R144, 08 R178, R189). Model's choices: log entries 3 and 29. -/
def Obligations.ReadsAnswered : Prop :=
  ∀ (s : State) (p : Port) (d : Drive) (tag : Byte), s.Settled →
    (let f : Frame := { kind := 0x0A#8, tag := tag, payload := byte1 (driveNumber d) }
     s.ServesNext p f → exec (.readDrive p) s = .next (s.afterService p (replyFrame f .done (s.driveStatus d)))) ∧
    (let f : Frame := { kind := 0x17#8, tag := tag, payload := byte1 (driveNumber d) }
     s.ServesNext p f → exec (.readDriveSetup p) s = .next (s.afterService p (replyFrame f .done (s.setup d).record))) ∧
    (let f : Frame := { kind := 0x0B#8, tag := tag, payload := [] }
     s.ServesNext p f → exec (.readEnvelope p) s = .next (s.afterService p (replyFrame f .done s.envelope.record))) ∧
    (let f : Frame := { kind := 0x0C#8, tag := tag, payload := [] }
     s.ServesNext p f → exec (.readFaults p) s = .next (s.afterService p (replyFrame f .done s.faultRecord))) ∧
    (let f : Frame := { kind := 0x19#8, tag := tag, payload := [] }
     s.ServesNext p f → exec (.readCompartmentSetup p) s = .next (s.afterService p (replyFrame f .done s.comp.record)))

/-- READ_SWEEP is answered with the record of context 1 or 2 and READ_GROUP with label length, label, member count and member
numbers of group 0 to 12, group 0 with an empty label and every drive that is not UNUSED in ascending number; any other
number is BAD_VALUE; nothing changes (07 R148, R166; 08 R174, R178). Model's choices: log entries 3 and 29. -/
def Obligations.SweepAndGroupReadsAnswered : Prop :=
  ∀ (s : State) (p : Port) (n : Byte) (tag : Byte), s.Settled →
    (let f : Frame := { kind := 0x12#8, tag := tag, payload := [n] }
     s.ServesNext p f →
      (n = 1#8 → exec (.readSweep p) s = .next (s.afterService p (replyFrame f .done ((s.sweep .one).record .one)))) ∧
      (n = 2#8 → exec (.readSweep p) s = .next (s.afterService p (replyFrame f .done ((s.sweep .two).record .two)))) ∧
      (n ≠ 1#8 → n ≠ 2#8 → exec (.readSweep p) s = .next (s.afterService p (replyFrame f .badValue [])))) ∧
    (let f : Frame := { kind := 0x18#8, tag := tag, payload := [n] }
     s.ServesNext p f →
      (n.toNat ≤ 12 → exec (.readGroup p) s = .next (s.afterService p (replyFrame f .done (s.groupRecord n.toNat)))) ∧
      (n = 0#8 →
        let used := (List.finRange 24).filter (fun d => (s.setup d).kind != .unused)
        exec (.readGroup p) s = .next (s.afterService p (replyFrame f .done
          ([0#8, BitVec.ofNat 8 used.length] ++ used.map (fun d => BitVec.ofNat 8 (d.val + 1)))))) ∧
      (∀ x : Group, 1 ≤ n.toNat → s.settings.groups[n.toNat - 1]? = some x →
        exec (.readGroup p) s = .next (s.afterService p (replyFrame f .done
          (BitVec.ofNat 8 x.label.length :: x.label ++
            BitVec.ofNat 8 x.members.length :: x.members.map (fun d => BitVec.ofNat 8 (d.val + 1)))))) ∧
      (12 < n.toNat → exec (.readGroup p) s = .next (s.afterService p (replyFrame f .badValue []))))

/-! ### Subscriptions -/

/-- SUBSCRIBE to a drive or a group puts the port into the subscriber set of each drive named and marks DRIVE_STATE of each
pending in that port's queue alone, at the tail and in list order, whether or not the port was a member; SUBSCRIBE to the
envelope puts the port into the envelope's set and marks ENVELOPE; the other ports' memberships stay (09 R193).
Model's choices: log entries 3 and 29. -/
def Obligations.SubscribeJoinsAndMarks : Prop :=
  ∀ (s : State) (p : Port) (subject number : Byte) (tag : Byte), s.Settled →
    let f : Frame := { kind := 0x0E#8, tag := tag, payload := [subject, number] }
    s.ServesNext p f →
    (∀ named : List Drive, (subject = 0#8 ∧ (∃ d, number.toNat = driveNumber d ∧ named = [d])) ∨
        (subject = 1#8 ∧ number.toNat ≤ 12 ∧ named = s.groupMembers number.toNat) →
      ∃ t, exec (.subscribe p) s = .next t ∧ Answered p (replyFrame f .done []) s t ∧
        (∀ d, (t.drive d).subs.get p = (decide (d ∈ named) || (s.drive d).subs.get p)) ∧
        (∀ d q, q ≠ p → (t.drive d).subs.get q = (s.drive d).subs.get q) ∧
        (∀ d, t.drive d = { s.drive d with subs := (t.drive d).subs }) ∧
        (∀ d ∈ named, Subject.driveState d ∈ (t.port p).notices) ∧
        (∃ l, (t.port p).notices = (s.port p).notices ++ l ∧ l.Sublist (named.map Subject.driveState)) ∧
        (∀ q, q ≠ p → t.port q = s.port q) ∧ t.envSubs = s.envSubs ∧ t.settings = s.settings ∧ t.store = s.store ∧
        t.sweeps = s.sweeps ∧ t.envelope = s.envelope ∧ t.arbiter = s.arbiter ∧ t.faults = s.faults) ∧
    (subject = 2#8 →
      ∃ t, exec (.subscribe p) s = .next t ∧ Answered p (replyFrame f .done []) s t ∧
        t.envSubs = s.envSubs.set p true ∧
        (t.port p).notices = (if Subject.envelope ∈ (s.port p).notices then (s.port p).notices
          else (s.port p).notices ++ [.envelope]) ∧
        (∀ q, q ≠ p → t.port q = s.port q) ∧ t.drives = s.drives ∧ t.settings = s.settings ∧ t.sweeps = s.sweeps ∧
        t.store = s.store ∧ t.envelope = s.envelope ∧ t.arbiter = s.arbiter ∧ t.faults = s.faults)

/-- UNSUBSCRIBE from a drive, a group or the envelope takes the port out of the sets named and leaves its notice queue as
it stands (09 R194). Model's choices: log entries 3 and 29. -/
def Obligations.UnsubscribeLeavesQueue : Prop :=
  ∀ (s : State) (p : Port) (subject number : Byte) (tag : Byte), s.Settled →
    let f : Frame := { kind := 0x0F#8, tag := tag, payload := [subject, number] }
    s.ServesNext p f →
      (∀ named : List Drive, (subject = 0#8 ∧ (∃ d, number.toNat = driveNumber d ∧ named = [d])) ∨
          (subject = 1#8 ∧ number.toNat ≤ 12 ∧ named = s.groupMembers number.toNat) →
        ∃ t, exec (.unsubscribe p) s = .next t ∧ Answered p (replyFrame f .done []) s t ∧
          (∀ d, t.drive d = { s.drive d with subs := (t.drive d).subs }) ∧
          (∀ d, (t.drive d).subs.get p = (!decide (d ∈ named) && (s.drive d).subs.get p)) ∧
          (∀ d q, q ≠ p → (t.drive d).subs.get q = (s.drive d).subs.get q) ∧
          (∀ q, (t.port q).notices = (s.port q).notices) ∧ t.envSubs = s.envSubs ∧ t.settings = s.settings ∧
          t.sweeps = s.sweeps ∧ t.store = s.store) ∧
      (subject = 2#8 → exec (.unsubscribe p) s =
        .next ({ s.afterService p (replyFrame f .done []) with envSubs := s.envSubs.set p false } : State))

/-! ### Sweeps -/

/-- START_SWEEP that passes its checks takes an IDLE context, without a result first, the lower-numbered if both qualify,
and otherwise the older result; the context holds the sweep afresh, STEPPING at the first place of its order, or ended
with EXHAUSTED and the next completion order for an empty list; the reply names the context and the member count (07 R151,
R153, R154, R163).
Model's choices: log entries 3, 29 and 33. -/
def Obligations.StartSweepTakesContext : Prop :=
  ∀ (s : State) (p : Port) (g v tol : Nat) (k : SweepKind) (o : SweepOrder) (w : Bool) (q : Condition) (tag : Byte),
    s.Settled → g ≤ 12 → v < 65536 → tol ≤ 1000 → (p = .heat → k = .scan) →
    let f : Frame := { kind := 0x10#8, tag := tag, payload := byte1 k.code ++ byte1 g ++
      (byte1 o.code ++ byte2 v ++ flag1 w ++ byte1 q.code ++ byte2 tol) }
    s.ServesNext p f →
    let a := s.sweep .one
    let b := s.sweep .two
    let members := s.groupMembers g
    (a.state ≠ .idle → b.state ≠ .idle → exec (.startSweep p) s = .next (s.afterService p (replyFrame f .busy []))) ∧
    ∀ c : Context, (s.sweep c).state = .idle →
      (c = .one → b.state = .idle → a.completion = none ∨ (b.completion.isSome = true ∧ a.completion.getD 0 ≤ b.completion.getD 0)) →
      (c = .two → a.state = .idle → a.completion.isSome = true ∧
        (b.completion = none ∨ b.completion.getD 0 < a.completion.getD 0)) →
      ∃ t, exec (.startSweep p) s = .next t ∧
        Answered p (replyFrame f .done (byte1 (contextNumber c) ++ byte1 members.length)) s t ∧ SweepsOnly c s t ∧
        t.sweeps.pointer = s.sweeps.pointer ∧
        (t.sweep c).owner = p ∧ (t.sweep c).kind = k ∧ (t.sweep c).group = g ∧ (t.sweep c).members = members ∧
        (t.sweep c).order = o ∧ (k = .set → (t.sweep c).value = min 1000 v) ∧
        (t.sweep c).wait = (w && (k == .set || k == .home)) ∧ (k = .scan → (t.sweep c).condition = q) ∧
        (k = .scan → q = .offTarget → (t.sweep c).tolerance = tol) ∧ (q ≠ .offTarget → (t.sweep c).tolerance = 0) ∧
        (t.sweep c).processed = 0 ∧ (t.sweep c).skipped = 0 ∧ (t.sweep c).inHand = none ∧
        (t.sweep c).foundPlace = none ∧ (t.sweep c).foundDrive = none ∧
        (members ≠ [] → (t.sweep c).state = .stepping ∧ (t.sweep c).completion = none ∧ (t.sweep c).markers = {} ∧
          (t.sweep c).nextIndex = some (match o with | .forward => 1 | .reverse => members.length)) ∧
        (members = [] → (t.sweep c).state = .idle ∧ (t.sweep c).completion = some s.sweeps.nextCompletion ∧
          (t.sweep c).markers = { exhausted := true } ∧ (t.sweep c).nextIndex = none ∧
          Subject.sweepDone c ∈ (t.port p).notices)

/-- CANCEL_SWEEP by the owner ends an active context with CANCELLED and the next completion order, a member in hand counted as
processed; on an IDLE context it changes nothing, from another port it is NOT_PERMITTED, and a context outside 1 and 2 is
BAD_VALUE (07 R151, R163, R164).
Model's choices: log entries 3 and 29. -/
def Obligations.CancelSweepEndsContext : Prop :=
  (∀ (s : State) (p : Port) (n : Byte) (tag : Byte), s.Settled → n ≠ 1#8 → n ≠ 2#8 →
    let f : Frame := { kind := 0x11#8, tag := tag, payload := [n] }
    s.ServesNext p f → exec (.cancelSweep p) s = .next (s.afterService p (replyFrame f .badValue []))) ∧
  ∀ (s : State) (p : Port) (c : Context) (tag : Byte), s.Settled →
    let f : Frame := { kind := 0x11#8, tag := tag, payload := byte1 (contextNumber c) }
    s.ServesNext p f →
    let x := s.sweep c
    (x.state = .idle → exec (.cancelSweep p) s = .next (s.afterService p (replyFrame f .done []))) ∧
    (x.state ≠ .idle → x.owner ≠ p → exec (.cancelSweep p) s = .next (s.afterService p (replyFrame f .notPermitted []))) ∧
    (x.state ≠ .idle → x.owner = p →
      ∃ t, exec (.cancelSweep p) s = .next t ∧ Answered p (replyFrame f .done []) s t ∧ SweepsOnly c s t ∧
        t.sweeps.pointer = s.sweeps.pointer ∧
        t.sweep c = { x with
          state := .idle, completion := some s.sweeps.nextCompletion, inHand := none,
          processed := if x.state = .waiting then x.processed + 1 else x.processed,
          markers := { x.markers with cancelled := true } } ∧
        Subject.sweepDone c ∈ (t.port p).notices)

/-- A SET step places the owner's demand with the context's value on the member, and a RELEASE step removes the owner's
entry; the member is resolved and its new target handed to the drive controller as for SET_DEMAND; without the wait flag the
member is counted as processed and the context goes on (02 R36, R50; 04 R86, R88, R91, R96, R99 to R101, R106; 07 R156, R157).
Model's choices: log entries 28, 32 and 46. -/
def Obligations.SetAndReleaseStepsActOnMember : Prop :=
  ∀ (s : State) (c : Context) (i : Nat) (d : Drive), s.StepsNext c i d → (s.setup d).kind ≠ .unused →
    (s.drive d).motion.state ≠ .absent → (s.sweep c).owner ≠ .heat →
    let x := s.sweep c
    let old := (s.drive d).demand
    let placed : Held := { value := min 1000 x.value, left := if x.owner = .climate then s.comp.climateLifetime else 36000 }
    (x.kind = .set →
      ∃ t, exec (.setStep c) s = .next t ∧ DrivesOnly (· = d) (· = d) s t ∧ QueuesSame s t ∧ t.store = s.store ∧
        Redemanded d (if x.owner = .climate then { old with climate := some placed }
          else { old with panel := some placed }) s t ∧ Retargeted d s t ∧
        t.sweeps.pointer = otherContext c ∧
        ((s.sweep (otherContext c)).state ≠ .waiting → t.sweep (otherContext c) = s.sweep (otherContext c)) ∧
        (x.wait = false → WentOn c i { x with processed := x.processed + 1 } s t)) ∧
    (x.kind = .release → x.wait = false →
      ∃ t, exec (.releaseStep c) s = .next t ∧ DrivesOnly (· = d) (· = d) s t ∧ QueuesSame s t ∧ t.store = s.store ∧
        ((if x.owner = .climate then old.climate else old.panel).isSome = true →
          Redemanded d (if x.owner = .climate then { old with climate := none } else { old with panel := none }) s t ∧
          Retargeted d s t) ∧
        ((if x.owner = .climate then old.climate else old.panel) = none → t.drive d = s.drive d) ∧
        t.sweeps.pointer = otherContext c ∧
        ((s.sweep (otherContext c)).state ≠ .waiting → t.sweep (otherContext c) = s.sweep (otherContext c)) ∧
        WentOn c i { x with processed := x.processed + 1 } s t)

/-- A HOME step acts on the member as a HOME request does, without a reply (04 R102, 07 R158).
Model's choices: log entries 32 and 37. -/
def Obligations.HomeStepActsOnMember : Prop :=
  ∀ (s : State) (c : Context) (i : Nat) (d : Drive), s.StepsNext c i d → (s.sweep c).kind = .home →
    (s.setup d).kind ≠ .unused → (s.drive d).motion.state ≠ .absent → (s.drive d).demand.lockout = false → s.QueueOk →
    let x := s.sweep c
    ∃ t, exec (.homeStep c) s = .next t ∧ DrivesOnly (· = d) (fun _ => False) s t ∧ QueuesSame s t ∧
      t.store = s.store ∧ Homed d s t ∧ t.sweeps.pointer = otherContext c ∧
      ((s.sweep (otherContext c)).state ≠ .waiting → t.sweep (otherContext c) = s.sweep (otherContext c)) ∧
      (x.wait = false → WentOn c i { x with processed := x.processed + 1 } s t)

/-- After a SET or HOME step with the wait flag the context waits with the member in hand, or, if the member is at rest at
the end of the step, has counted it. A context that waits stays as it is in every event that does not leave its member at
rest, and in the first one that does it counts the member, FAULTED as skipped, and LOCKED as skipped for HOME, and goes on;
but for CANCEL_SWEEP and the resets, which end the sweep. A sweep that ends so takes a completion order above all given before
the event (07 R151, R160, R161, R163, R164, R168). -/
def Obligations.WaitingStepCountsAtRest : Prop :=
  (∀ (s t : State) (c : Context) (i : Nat) (d : Drive), s.StepsNext c i d → (s.setup d).kind ≠ .unused →
    (s.drive d).motion.state ≠ .absent → (s.sweep c).owner ≠ .heat → (s.sweep c).wait = true →
    ((s.sweep c).kind = .set ∧ exec (.setStep c) s = .next t) ∨
      ((s.sweep c).kind = .home ∧ (s.drive d).demand.lockout = false ∧ exec (.homeStep c) s = .next t) →
    let x := s.sweep c
    let m := (t.drive d).motion.state
    (m ≠ .stopped → m ≠ .faulted → m ≠ .locked → t.sweep c = { x with
      state := .waiting, inHand := some i, nextIndex := x.placeAfter i }) ∧
    (m = .faulted ∨ (m = .locked ∧ x.kind = .home) →
      WentOn c i { x with skipped := x.skipped + 1, markers := { x.markers with skippedSome := true } } s t) ∧
    (m = .stopped ∨ (m = .locked ∧ x.kind = .set) → WentOn c i { x with processed := x.processed + 1 } s t)) ∧
  ∀ (s t : State) (c : Context) (i : Nat) (d : Drive) (command : Instr), s.Settled → exec command s = .next t →
    (s.sweep c).state = .waiting → (s.sweep c).inHand = some i → 1 ≤ i → (s.sweep c).members[i - 1]? = some d →
    (∀ p, command ≠ .cancelSweep p) → (∀ order, command ≠ .warmReset order) →
    (∀ present cut order, command ≠ .coldReset present cut order) →
    (∀ order, command = .saveCompletion order → s.store.deferredReset = false) →
    let x := s.sweep c
    let m := (t.drive d).motion.state
    (m ≠ .stopped → m ≠ .faulted → m ≠ .locked → t.sweep c = x) ∧
    (m = .faulted ∨ (m = .locked ∧ x.kind = .home) →
      WentOnTo c x.nextIndex { x with skipped := x.skipped + 1, markers := { x.markers with skippedSome := true } } s t) ∧
    (m = .stopped ∨ (m = .locked ∧ x.kind ≠ .home) → WentOnTo c x.nextIndex { x with processed := x.processed + 1 } s t)

/-- A SCAN step changes no drive: a member that matches the condition ends the sweep with FOUND, its place and drive, and the
next index past its place; one that does not is counted and the sweep goes on (07 R159; the next index by R152). -/
def Obligations.ScanStepTestsMember : Prop :=
  ∀ (s : State) (c : Context) (i : Nat) (d : Drive), s.Settled → s.StepsNext c i d → (s.sweep c).kind = .scan →
    (s.setup d).kind ≠ .unused → (s.drive d).motion.state ≠ .absent →
    let x := s.sweep c
    let m := (s.drive d).motion.state
    let hit : Bool := match x.condition with
      | .offTarget => decide (x.tolerance < Machine.dist (s.livePosition d) (s.drive d).demand.target)
      | .notReferenced => decide ((s.drive d).book.knowledge = .unknown ∨ (s.drive d).book.knowledge = .estimated)
      | .faulted => decide (m = .faulted ∨ m = .retryWait)
      | .moving => decide (m = .queued ∨ m = .running ∨ m = .pausing)
    ∃ t, exec (.scanStep c) s = .next t ∧ SweepsOnly c s t ∧ QueuesSame s t ∧ t.sweeps.pointer = otherContext c ∧
      (hit = true → t.sweep c = { x with
          state := .idle, completion := some s.sweeps.nextCompletion, inHand := none, nextIndex := x.placeAfter i,
          processed := x.processed + 1, markers := { x.markers with found := true }, foundPlace := some i,
          foundDrive := some d } ∧ Subject.sweepDone c ∈ (t.port x.owner).notices) ∧
      (hit = false → WentOn c i { x with processed := x.processed + 1 } s t)

/-- A member that is UNUSED or ABSENT, or for HOME under lockout, is passed over: it is counted as skipped, no drive
changes, and the context goes on (07 R156). -/
def Obligations.StepPassesOverMember : Prop :=
  ∀ (s : State) (c : Context) (i : Nat) (d : Drive), s.Settled → s.StepsNext c i d →
    (s.setup d).kind = .unused ∨ (s.drive d).motion.state = .absent ∨
      ((s.sweep c).kind = .home ∧ (s.drive d).demand.lockout = true) →
    let x := s.sweep c
    ∃ t, exec (match x.kind with
        | .set => .setStep c
        | .release => .releaseStep c
        | .home => .homeStep c
        | .scan => .scanStep c) s = .next t ∧
      SweepsOnly c s t ∧ QueuesSame s t ∧ t.sweeps.pointer = otherContext c ∧
      WentOn c i { x with skipped := x.skipped + 1, markers := { x.markers with skippedSome := true } } s t

/-! ### Setups and saves -/

/-- A WRITE_DRIVE_SETUP whose values fail a range or the pulse_on check is BAD_VALUE; one that meets a save in flight, or a
drive that is QUEUED, RUNNING, PAUSING or in RETRY_WAIT outside the valve case, is BUSY; each changes nothing. An accepted
one gives the drive the record of the write and no other drive another; the position book follows as 01 R5 says, a change
of kind empties the stack but for a lockout, the drive is resolved against the new record, and the bounds are taken anew
where the kind or the facing changed. The motion record takes the state, direction, purpose, markers and retry count of 04
R107 and 06 R132, and a drive then STOPPED makes its decision; a change of state, direction, knowledge, target, source or
marker makes DRIVE_STATE due, and a drive found ABSENT reports CARD_ABSENT (01 R3 to R5; 02 R50, R52; 03 R77; 04 R83, R84,
R86, R87, R107, R108; 06 R132, R140; 08 R180). Motion record and book take these values also where the
write fits a switch, or gives a kind to an UNUSED drive, while both contacts stand closed: that this is no BOTH_ENDS, which
would make the drive FAULTED, is the model's choice (log entry 40). Model's choices: log entries 3, 4, 26, 29, 34, 40 and 50. -/
def Obligations.WriteDriveSetupTakesRecord : Prop :=
  ∀ (s : State) (p : Port) (d : Drive) (items : List (Nat × Nat)) (tag : Byte), p ≠ .heat →
    1 ≤ items.length → items.length ≤ 18 → (items.map Prod.fst).Nodup →
    (∀ i ∈ items, 1 ≤ i.1 ∧ i.1 ≤ 18 ∧ i.2 < 65536) →
    let f : Frame := { kind := 0x13#8, tag := tag, payload := byte1 (driveNumber d) ++
      (items.flatMap (fun i => byte1 i.1 ++ byte2 i.2)) }
    s.ServesNext p f →
    let u := s.setup d
    let v := u.after items
    let m := (s.drive d).motion.state
    let staged := u.kind = .valve ∧ ∀ i ∈ items, i.1 = 13 ∨ i.1 = 14
    let admits := m = .stopped ∨ m = .faulted ∨ m = .locked ∨ m = .absent ∨
      ((m = .running ∨ m = .pausing) ∧ staged)
    (s.Settled → u.writeOk items = false →
      exec (.writeDriveSetup p) s = .next (s.afterService p (replyFrame f .badValue []))) ∧
    (s.Settled → u.writeOk items = true → s.store.save.isSome = true ∨ ¬ admits →
      exec (.writeDriveSetup p) s = .next (s.afterService p (replyFrame f .busy []))) ∧
    (s.QueueOk → s.Resolved → u.writeOk items = true → s.store.save = none → admits →
        ∃ t, exec (.writeDriveSetup p) s = .next t ∧ Answered p (replyFrame f .done []) s t ∧
          t.setup d = v ∧ (∀ k, k ≠ d → t.setup k = s.setup k) ∧
          t.comp = s.comp ∧ t.settings.groups = s.settings.groups ∧
          DrivesOnly (· = d) (· = d) { s with settings := t.settings, envelope := t.envelope } t ∧ t.store = s.store ∧
          SweepsSame s t ∧
          t.envelope = { s.envelope with
            pushes := if v.kind ≠ u.kind ∨ v.facing ≠ u.facing then s.envelope.pushes.filter (·.drive ≠ d)
              else s.envelope.pushes } ∧
          (v.kind ≠ u.kind ∨ v.facing ≠ u.facing → ((t.drive d).demand.envFloor, (t.drive d).demand.envCeiling) = t.boundsOf d) ∧
          (t.drive d).demand.Resolved v.fallback ∧ (t.drive d).demand.lockout = (s.drive d).demand.lockout ∧
          (v.kind ≠ u.kind → (t.drive d).book = {} ∧ (t.drive d).demand.panel = none ∧ (t.drive d).demand.climate = none ∧
            (t.drive d).demand.cap = none ∧ (t.drive d).demand.displacedClimate = none ∧
            (t.drive d).demand.displacedPanel = none ∧ (t.drive d).motion.homeMarker = false) ∧
          (v.kind = u.kind → (t.drive d).demand.panel = (s.drive d).demand.panel ∧
            (t.drive d).demand.climate = (s.drive d).demand.climate ∧ (t.drive d).demand.cap = (s.drive d).demand.cap ∧
            (t.drive d).book.position = (s.drive d).book.position ∧
            (v.pps ≠ u.pps → v.kind = .screen → (t.drive d).book.knowledge = .unknown ∧
              (t.drive d).book.count = roundHalfUp ((s.drive d).book.position * v.pps) 1000) ∧
            (v.strokeOpen ≠ u.strokeOpen ∨ v.strokeClose ≠ u.strokeClose → (v.pps = u.pps ∨ v.kind ≠ .screen) →
              (t.drive d).book.knowledge =
                if (s.drive d).book.knowledge = .unknown then .unknown else .estimated)) ∧
          (let M := (s.drive d).motion
           let book := (s.drive d).book.written u v
           let state := stateWritten u v s.store.present[cardOf d] (s.drive d).demand.lockout m
           let motion := M.written u v state (s.drive d).book book
           let w : State := ((({ s with settings := t.settings } : State).setDrive d
             { s.drive d with book := book, motion := motion }).withDemand d (t.drive d).demand)
           (state ≠ .stopped → (t.drive d).motion = motion ∧ (t.drive d).book = book) ∧
           (state = .stopped → M.pause = none → M.retryLeft = none → Decided d w t) ∧
           ((s.drive d).pins.tripOpen = false → M.coast = none → (t.drive d).book = book) ∧
           (v.kind ≠ u.kind → state = .absent → (t.drive d).faults.latched.cardAbsent = true) ∧
           (m ≠ (t.drive d).motion.state ∨ M.direction ≠ (t.drive d).motion.direction ∨
             (s.drive d).book.knowledge ≠ (t.drive d).book.knowledge ∨
             (s.drive d).demand.target ≠ (t.drive d).demand.target ∨
             (s.drive d).demand.governing ≠ (t.drive d).demand.governing ∨
             (s.drive d).demand.conflict ≠ (t.drive d).demand.conflict ∨
             (v.kind ≠ u.kind ∧ (s.drive d).demand.target ≠ 0) → Notified d s t)))

/-- WRITE_GROUP replaces the label and the members of groups 1 to 12 and nothing else; a bad group, label, member or a
repeated member is BAD_VALUE; a save in flight or an active sweep over the group is BUSY (07 R149, R150).
Model's choices: log entries 3 and 29. -/
def Obligations.WriteGroupReplacesGroup : Prop :=
  ∀ (s : State) (p : Port) (g : Nat) (label : List Byte) (numbers : List Nat) (tag : Byte), s.Settled → p ≠ .heat →
    g < 256 → numbers.length < 256 → label.length < 256 → (∀ n ∈ numbers, n < 256) →
    let f : Frame := { kind := 0x14#8, tag := tag, payload := byte1 g ++ byte1 label.length ++ label ++
      (byte1 numbers.length ++ (numbers.flatMap byte1)) }
    s.ServesNext p f →
    let valid := 1 ≤ g ∧ g ≤ 12 ∧ label.length ≤ 8 ∧ (∀ b ∈ label, 0x20 ≤ b.toNat ∧ b.toNat ≤ 0x7E) ∧
      (∀ n ∈ numbers, 1 ≤ n ∧ n ≤ 24) ∧ numbers.Nodup
    let busy := s.store.save.isSome = true ∨ ∃ c, (s.sweep c).state ≠ .idle ∧ (s.sweep c).group = g
    (¬ valid → exec (.writeGroup p) s = .next (s.afterService p (replyFrame f .badValue []))) ∧
    (valid → busy → exec (.writeGroup p) s = .next (s.afterService p (replyFrame f .busy []))) ∧
    (valid → ¬ busy →
      ∃ t, exec (.writeGroup p) s = .next t ∧
        t = { s.afterService p (replyFrame f .done []) with settings := t.settings } ∧
        t.comp = s.comp ∧ t.settings.setups = s.settings.setups ∧
        (∀ k, k ≠ g → 1 ≤ k → k ≤ 12 → t.settings.groups[k - 1]? = s.settings.groups[k - 1]?) ∧
        ∃ x, t.settings.groups[g - 1]? = some x ∧ x.label = label ∧ x.members.map driveNumber = numbers ∧
          t.groupMembers g = x.members)

/-- An accepted WRITE_COMPARTMENT_SETUP gives the unit the record of the write and changes no demand, no position and no
setup of a drive, no sweep and no fault kind of the compartment; the envelope unit computes a side's ceiling with its release
timer, or the frost floor, again only where their fields changed, pushes the bounds that changed, and keeps the rest; a
lowered rereference_distance makes the REFERENCED drives that have travelled further ESTIMATED and, where no grant can
follow, changes no other drive, one of those that is QUEUED deciding again; a raised slot_limit lets the head be granted in
the same event, and a write that neither raises it nor lowers rereference_distance is no event at the start arbiter (01 R22, 03
R62, R63, R68, R75, R76, 04 R84, R88, R108, 05 R116 to R118, R122, R123, 08 R181). The purpose MOVE of a QUEUED drive whose
entry is withdrawn is the model's choice (log entry 32). Model's choices: log entries 3, 4, 12, 24, 29, 32, 45 and 46. -/
def Obligations.WriteCompartmentTakesRecord : Prop :=
  ∀ (s : State) (p : Port) (items : List (Nat × Int)) (tag : Byte), s.Settled → p ≠ .heat →
    1 ≤ items.length → items.length ≤ 20 → (items.map Prod.fst).Nodup →
    (∀ i ∈ items, 1 ≤ i.1 ∧ i.1 ≤ 20 ∧
      (if i.1 = 10 ∨ i.1 = 11 then -32768 ≤ i.2 ∧ i.2 < 32768 else 0 ≤ i.2 ∧ i.2 < 65536)) →
    let f : Frame := { kind := 0x15#8, tag := tag, payload := (items.flatMap (fun i => byte1 i.1 ++ byte2s i.2)) }
    s.ServesNext p f →
    let old := s.comp
    let new := s.comp.after items
    let tooLow := ∃ i ∈ items, i.1 = 1 ∧ i.2 < s.arbiter.holders.length
    (old.writeOk items = false →
      exec (.writeCompartmentSetup p) s = .next (s.afterService p (replyFrame f .badValue []))) ∧
    (old.writeOk items = true → s.store.save.isSome = true ∨ tooLow →
      exec (.writeCompartmentSetup p) s = .next (s.afterService p (replyFrame f .busy []))) ∧
    (s.QueueOk → old.writeOk items = true → s.store.save = none → ¬ tooLow →
      ∃ t, exec (.writeCompartmentSetup p) s = .next t ∧ Answered p (replyFrame f .done []) s t ∧
        t.settings = { s.settings with compartment := new } ∧ t.store = s.store ∧ t.held = s.held ∧
        (∀ d, (t.drive d).demand = (s.drive d).demand ∧ (t.drive d).pins = (s.drive d).pins ∧
          (t.drive d).book.position = (s.drive d).book.position ∧ (t.drive d).subs = (s.drive d).subs) ∧
        (old.rereferenceDistance ≤ new.rereferenceDistance → ∀ d, d ∉ s.waiting → t.drive d = s.drive d) ∧
        (new.rereferenceDistance < old.rereferenceDistance → ∀ d, (s.drive d).book.knowledge = .referenced →
          new.rereferenceDistance < (s.drive d).book.travel → (t.drive d).book.knowledge = .estimated) ∧
        (let asWritten : State := { s with settings := t.settings }
         let hit (d : Drive) := new.rereferenceDistance < old.rereferenceDistance ∧
           (s.drive d).book.knowledge = .referenced ∧ new.rereferenceDistance < (s.drive d).book.travel
         ActsOn hit (fun _ => False) { asWritten with envelope := t.envelope } t ∧
         (asWritten.NoGrant → ∀ d, ¬ hit d → t.drive d = s.drive d) ∧
         ∀ d, hit d →
           let r : DriveRec := { s.drive d with
             book := { (s.drive d).book with knowledge := .estimated },
             motion := { (s.drive d).motion with missedEnd := none } }
           let u := asWritten.setDrive d r
           Notified d s t ∧ (d ∉ s.waiting → t.drive d = r) ∧
           (d ∈ s.waiting → asWritten.NoGrant → (t.drive d).book = r.book ∧
             (u.seeksMotion d = false →
               (t.drive d).motion = { r.motion with state := .stopped, purpose := .move } ∧ d ∉ t.waiting) ∧
             (u.seeksMotion d = true → (t.drive d).motion = { r.motion with
                 direction := (u.choice d).direction, purpose := (u.choice d).purpose } ∧
               ((u.choice d).direction = r.motion.direction → EntryKept d u t) ∧
               ((u.choice d).direction ≠ r.motion.direction → ∃ e ∈ t.arbiter.queue, e.drive = d ∧
                 e.direction = (u.choice d).direction ∧ s.arbiter.nextArrival ≤ e.arrival)))) ∧
        t.envelope = { s.envelope with
          computed := t.envelope.computed, held := t.envelope.held, release := t.envelope.release,
          frostFloor := t.envelope.frostFloor, pushes := t.envelope.pushes } ∧
        (∀ x w, s.envelope.effective = some w → (old.lo x ≠ new.lo x ∨ old.hi x ≠ new.hi x) →
          let c := sideCeiling (new.lo x) (new.hi x) w
          t.envelope.computed.get x = some c ∧ t.envelope.held.get x = min (s.envelope.held.get x) c ∧
          t.envelope.release.get x =
            if c < s.envelope.held.get x then some new.releaseDelay
            else if s.envelope.held.get x < c then some ((s.envelope.release.get x).getD new.releaseDelay)
            else s.envelope.release.get x) ∧
        (∀ x, s.envelope.effective = none ∨ (old.lo x = new.lo x ∧ old.hi x = new.hi x) →
          t.envelope.computed.get x = s.envelope.computed.get x ∧ t.envelope.held.get x = s.envelope.held.get x ∧
          t.envelope.release.get x = s.envelope.release.get x) ∧
        (old.frostStart = new.frostStart → old.frostFull = new.frostFull → old.frostMaxFloor = new.frostMaxFloor →
          t.envelope.frostFloor = s.envelope.frostFloor) ∧
        (old.frostStart ≠ new.frostStart ∨ old.frostFull ≠ new.frostFull ∨ old.frostMaxFloor ≠ new.frostMaxFloor →
          t.envelope.frostFloor = frostFloorAt new (if s.envelope.weather = .current then
            s.envelope.observation.bind Observation.temp else none)) ∧
        (old.rereferenceDistance ≤ new.rereferenceDistance →
          (new.slotLimit ≤ old.slotLimit → t.arbiter = s.arbiter) ∧
          ∀ e rest, old.slotLimit < new.slotLimit → s.arbiter.queue = e :: rest →
            s.arbiter.holders.length < new.slotLimit → s.arbiter.spacing = none → s.arbiter.restart = none →
            t.arbiter.queue = rest ∧
            t.arbiter.spacing = (if new.startSpacing = 0 then none else some new.startSpacing) ∧
            ((s.drive e.drive).pins.tripOpen = false → (t.drive e.drive).motion.state = .running ∧
              t.arbiter.holders = s.arbiter.holders ++ [e.drive])) ∧
        PushedChanges s t ∧ EnvelopeMarked s t)

/-- SAVE_SETTINGS begins a save of the working copy with the lockout set as it stands, and is BUSY while a save is in
flight. When a save completes the stored image is the copy taken at its beginning, with its CRC, and STORE_INVALID ceases to
be active and stays latched; a deferred warm reset then acts, and a pending save then begins with the settings and the
lockout set as they stand (08 R182; 10 R201 to R203, R205). That the completion orders of the sweeps begin afresh at 0 in
that reset is the model's choice (log entry 49). Model's choices: log entries 3, 6, 14, 25, 29, 41 and 49. -/
def Obligations.SavesStoreTheCopyTaken : Prop :=
  (∀ (s : State) (p : Port) (tag : Byte), s.Settled → p ≠ .heat →
    let f : Frame := { kind := 0x16#8, tag := tag, payload := [] }
    s.ServesNext p f →
    (s.store.save.isSome = true → exec (.saveSettings p) s = .next (s.afterService p (replyFrame f .busy []))) ∧
    (s.store.save = none → exec (.saveSettings p) s = .next ((s.afterService p (replyFrame f .done [])).withStore
      { s.store with save := some { copy := { settings := s.settings, lockouts := s.lockoutSet }, elapsed := 0 } }))) ∧
  (∀ (s : State) (v : Save) (order : List Drive), s.Settled → s.store.save = some v →
    ∃ t, exec (.saveCompletion order) s = .next t ∧ t.store.stored = v.copy ∧ t.store.intact = true ∧
      t.store.crc = Config.imageCrc v.copy ∧
      t.store.imageFailed = false ∧ t.store.deferredReset = false ∧ t.store.pendingSave = false ∧
      t.store.present = s.store.present ∧ t.settings = s.settings ∧ t.faults.storeActive = false ∧
      t.lockoutSet = s.lockoutSet ∧
      t.store.save = (if s.store.pendingSave then
        some { copy := { settings := s.settings, lockouts := s.lockoutSet }, elapsed := 0 } else none) ∧
      (s.store.deferredReset = false → t.drives = s.drives ∧ t.envelope = s.envelope ∧ t.arbiter = s.arbiter ∧
        t.sweeps = s.sweeps ∧ QueuesSame s t ∧ t.held = s.held ∧ t.faults.storeLatched = s.faults.storeLatched ∧
        t.faults.staleActive = s.faults.staleActive ∧ t.faults.staleLatched = s.faults.staleLatched) ∧
      (s.store.deferredReset = true → t.held = s.resetLine ∧ t.sweeps = {} ∧ t.turn = .climate ∧
        ∀ d, (t.drive d).demand.panel = none ∧ (t.drive d).demand.climate = none ∧ (t.drive d).demand.cap = none))

/-! ### The weather envelope -/

/-- An observation of the unit's mast is taken with its fields clamped: it replaces the one held, the effective wind and
both sides' ceilings are computed, a lower ceiling holds at once with a full release delay and a higher one waits, the
frost floor follows the temperature, the weather is CURRENT with the stale timer started, and the changed bounds are
pushed; no drive changes in this event, and in the hold of a warm reset it is not taken and nothing changes. Ceilings, frost floor and the bounds of a drive by its kind, its side and the
weather are as the rules give them case by case (02 R46; 03 R57 to R63, R66 to R73; 10 R205). Model's choices: log entry 4. -/
def Obligations.ObservationRecomputesEnvelope : Prop :=
  (∀ (s : State) (d : Drive), BoundsCases s d ∧ WeatherCases s.comp) ∧
  (∀ (s : State) (o : WireObservation), s.held = true → exec (.observation o) s = .next s) ∧
  ∀ (s : State) (o : WireObservation), s.Settled → s.held = false → o.mast.toNat = s.comp.mastId →
    let mean := min 600 o.mean.toNat
    let gust := min 800 o.gust.toNat
    let w := max mean (gust * 3 / 4)
    let temp := if o.tempOn then some (max (-400) (min 500 o.temp.toInt)) else none
    ∃ t, exec (.observation o) s = .next t ∧ EnvelopeOnly s t ∧
      t.envelope.observation = some {
          mast := s.comp.mastId, mean := mean, gust := gust, temp := temp, rain := o.rain, snow := o.snow,
          direction := (if o.directionOn then
            some (if o.direction.toNat < 360 then o.direction.toNat else o.direction.toNat % 360) else none) } ∧
      t.envelope.age = 0 ∧ t.envelope.effective = some w ∧ t.envelope.rain = o.rain ∧ t.envelope.snow = o.snow ∧
      t.envelope.weather = .current ∧ t.envelope.stale = some s.comp.staleTimeout ∧
      t.envelope.frostFloor = frostFloorAt s.comp temp ∧
      (∀ x, let c := sideCeiling (s.comp.lo x) (s.comp.hi x) w
        t.envelope.computed.get x = some c ∧ t.envelope.held.get x = min (s.envelope.held.get x) c ∧
        t.envelope.release.get x =
          if c < s.envelope.held.get x then some s.comp.releaseDelay
          else if s.envelope.held.get x < c then some ((s.envelope.release.get x).getD s.comp.releaseDelay)
          else s.envelope.release.get x) ∧
      PushedChanges s t ∧ EnvelopeMarked s t ∧
      t.faults.staleActive = (s.faults.staleActive && s.envelope.weather != .stale) ∧
      t.faults.staleLatched = s.faults.staleLatched ∧ t.weatherRx = .hunting

/-- An observation whose mast id is not the unit's is ignored: but for the receiver, which stands in HUNTING after the
frame, nothing of the unit changes, no timer is touched, no bound is pushed and no notice marked. One that bears the
unit's mast id is accepted: it replaces the observation held, and its age begins at 0 (03 R57). -/
def Obligations.OtherMastIgnored : Prop :=
  ∀ (s : State) (o : WireObservation), s.Settled → s.held = false →
    (o.mast.toNat ≠ s.comp.mastId → exec (.observation o) s = .next { s with weatherRx := .hunting }) ∧
    (o.mast.toNat = s.comp.mastId → ∃ t, exec (.observation o) s = .next t ∧
      t.envelope.observation.map Observation.mast = some o.mast.toNat ∧ t.envelope.age = 0)

/-- A release expiry lets the held ceiling of its side rise to the last computed value and leaves the other side. The stale
expiry makes a CURRENT envelope STALE, with the frost floor at frost_max_floor and all else kept, and reports
WEATHER_STALE; in STALE it only reports. The changed bounds are pushed; a pushed pair is taken at the demand table of its
drive, the first on its way first, the drive is resolved, its controller takes a new target, and a waiting entry now
outside its bounds is raised to PROTECTIVE; without an event at the start arbiter no grant follows. A summary that
WEATHER_STALE changes marks FAULT_SUMMARY on all three ports (02 R46, R50; 03 R64, R70 to R72; 04 R86 to R88, R91, R99 to
R101; 05 R116, R118; 06 R142). Model's choices: log entries 4, 32, 46 and 52. -/
def Obligations.EnvelopeTimersAndPushes : Prop :=
  (∀ (s : State) (x : Side), s.Settled → s.held = false → s.envelope.release.get x = some 0 →
    ∃ t, exec (.releaseTimerExpiry x) s = .next t ∧ EnvelopeOnly s t ∧ t.faults = s.faults ∧
      t.weatherRx = s.weatherRx ∧
      (∀ c, s.envelope.computed.get x = some c → t.envelope.held.get x = c) ∧ t.envelope.release.get x = none ∧
      (∀ y, y ≠ x → t.envelope.held.get y = s.envelope.held.get y ∧
        t.envelope.release.get y = s.envelope.release.get y) ∧
      t.envelope = { s.envelope with
        held := t.envelope.held, release := t.envelope.release, pushes := t.envelope.pushes } ∧
      PushedChanges s t ∧ EnvelopeMarked s t) ∧
  (∀ s : State, s.Settled → s.held = false → s.envelope.stale = some 0 →
    ∃ t, exec .staleTimerExpiry s = .next t ∧ EnvelopeOnly s t ∧ t.weatherRx = s.weatherRx ∧
      t.faults.staleActive = true ∧ t.faults.staleLatched = true ∧ t.faults.summary = summaryOf t.latchedPairs ∧
      (t.faults.summary ≠ s.faults.summary → ∀ p, Subject.faultSummary ∈ (t.port p).notices) ∧
      (s.envelope.weather = .current → t.envelope = { s.envelope with
          stale := none, weather := .stale, frostFloor := s.comp.frostMaxFloor, pushes := t.envelope.pushes } ∧
        PushedChanges s t ∧ EnvelopeMarked s t) ∧
      (s.envelope.weather = .stale → t.envelope = { s.envelope with stale := none })) ∧
  ∀ (s : State) (d : Drive) (q : Push), s.held = false → s.envelope.pushes.find? (fun p => p.drive = d) = some q →
    ∃ t, exec (.envelopePush d) s = .next t ∧
      ActsOn (· = d) (· = d) { s with envelope := { s.envelope with pushes := s.envelope.pushes.erase q } } t ∧
      QueuesSame s t ∧
      Redemanded d { (s.drive d).demand with envFloor := q.floor, envCeiling := q.ceiling } s t ∧ Retargeted d s t

/-! ### Lapses -/

/-- The lapse of a PANEL or CLIMATE entry removes it and resolves the drive, and the lapse of a heat cap does the same with
the cap: no reply is made, nothing is displaced, a change of the target or of the governing source marks DRIVE_STATE
pending for the drive's subscribers, and a new target is handed to the drive controller as for SET_DEMAND (02 R38, R50; the
cap by R43; 04 R86, R88, R91, R96, R99 to R101, R106). Model's choices: log entries 32 and 46. -/
def Obligations.LapsesResolve : Prop :=
  ∀ (s : State) (d : Drive) (h : Held), s.held = false → h.left = 0 →
    let m := (s.drive d).demand
    let lapsed (left : Demand) (t : State) :=
      ActsOn (· = d) (· = d) s t ∧ QueuesSame s t ∧ Redemanded d left s t ∧ Retargeted d s t ∧
      (s.Resolved → (t.drive d).demand.displacedClimate = m.displacedClimate ∧
        (t.drive d).demand.displacedPanel = m.displacedPanel) ∧
      ((t.drive d).demand.target ≠ m.target ∨ (t.drive d).demand.governing ≠ m.governing →
        ∀ p, (s.drive d).subs.get p = true → Subject.driveState d ∈ (t.port p).notices)
    (m.panel = some h → ∃ t, exec (.demandLapse d .panel) s = .next t ∧ lapsed { m with panel := none } t) ∧
    (m.climate = some h → ∃ t, exec (.demandLapse d .climate) s = .next t ∧ lapsed { m with climate := none } t) ∧
    (m.cap = some h → ∃ t, exec (.capLapse d) s = .next t ∧ lapsed { m with cap := none } t)

/-! ### The start arbiter -/

/-- A grant takes the head out of the start queue, gives its drive a slot, starts the spacing timer and closes an open
coast window; with its trip contact closed the drive is RUNNING with the plan of its kind from where it stands, and with
it open the start is taken as a trip; where no entry waits, no slot is free or a timer runs, no grant is made. With
start_spacing 0 the next head is granted by a grant of its own. The position of a drive at every moment of its run or pulse is
given case by case (01 R6, R7, R11 to R13, R16, R24; 04 R89; 05 R118, R119, R122; 06 R128, R130). Model's choices: log entries 1, 8, 19, 43 and 47. -/
def Obligations.GrantStartsHead : Prop :=
  (∀ u : Setup, PlanTimes u) ∧ (∀ (s : State) (d : Drive), LivePositionCases s d) ∧
  (∀ s : State, s.NoGrant ∨ s.arbiter.queue = [] → exec .grant s = .next s) ∧
  ∀ (s : State) (e : Entry) (rest : List Entry), s.Settled → s.QueueOk → s.arbiter.queue = e :: rest →
    s.arbiter.holders.length < s.comp.slotLimit → s.arbiter.spacing = none → s.arbiter.restart = none →
    let d := e.drive
    let u := s.closeCoast d
    let c := u.choice d
    let v := s.setup d
    let p := (s.drive d).book.position
    ∃ t, exec .grant s = .next t ∧ ActsOn (· = d) (fun _ => False) s t ∧ QueuesSame s t ∧
      (∀ k, k ≠ d → t.drive k = s.drive k) ∧ t.arbiter.queue = rest ∧
      t.arbiter.spacing = (if s.comp.startSpacing = 0 then none else some s.comp.startSpacing) ∧
      ((s.drive d).pins.tripOpen = false → t.arbiter.holders = s.arbiter.holders ++ [d] ∧
        (t.drive d).book = (u.drive d).book ∧
        (t.drive d).motion = { (u.drive d).motion with
          state := .running, direction := c.direction, purpose := c.purpose, travelBase := p, lastProgress := none,
          pulseGap := (if v.kind = .screen then some (v.stallGap + v.startLag) else none),
          run := some (if v.kind = .screen then
              .screen { aim := c.aim, targetCount := v.countOf c.aim, tally := 0 }
            else if c.purpose = .home then
              .vent { start := p, aim := 0, lag := v.startLag, planned := v.startLag + v.homeTime, timer := 0 }
            else
              .vent { start := p, aim := c.aim, lag := v.startLag,
                      planned := v.startLag + v.driveTime c.direction p c.aim, timer := 0 }) }) ∧
      ((s.drive d).pins.tripOpen = true → Tripped d .trip u t)

/-- The spacing timer's expiry leaves it idle and lets a grant follow at once if one is possible. The restart hold's expiry
starts a train of every STOPPED VALVE that seeks motion, a trip of those whose trip contact is open, and grants the head
of the start queue if a slot is free and the spacing timer idle (05 R118, R122, R124; 04 R87, R97; 06 R128).
Model's choices: log entry 8. -/
def Obligations.SpacingAndRestartExpire : Prop :=
  (∀ s : State, s.Settled → s.arbiter.spacing = some 0 →
    ∃ t, exec .spacingExpiry s = .next t ∧ exec .grant (s.withArbiter { s.arbiter with spacing := none }) = .next t ∧
      (s.arbiter.queue = [] ∨ s.comp.slotLimit ≤ s.arbiter.holders.length ∨ s.arbiter.restart.isSome = true →
        t = s.withArbiter { s.arbiter with spacing := none })) ∧
  ∀ s : State, s.held = false → s.QueueOk → s.arbiter.restart = some 0 →
    let told (d : Drive) := (s.setup d).kind = .valve ∧ (s.drive d).motion.state = .stopped ∧ s.seeksMotion d = true
    ∃ t, exec .restartHoldExpiry s = .next t ∧ t.arbiter.restart = none ∧
      ActsOn told (fun _ => False) (s.withArbiter { s.arbiter with restart := none }) t ∧ QueuesSame s t ∧
      (∀ d, told d → (s.drive d).pins.tripOpen = false → TrainBegun d s t) ∧
      (∀ d, told d → (s.drive d).pins.tripOpen = true → Tripped d .trip s t) ∧
      ∀ e rest, s.arbiter.queue = e :: rest → s.arbiter.holders.length < s.comp.slotLimit → s.arbiter.spacing = none →
        t.arbiter.queue = rest ∧
        ((s.drive e.drive).pins.tripOpen = false → (t.drive e.drive).motion.state = .running ∧
          t.arbiter.holders = s.arbiter.holders ++ [e.drive])

/-! ### Runs, trains and pauses -/

/-- The planned expiry of a VENT run, and the end of the pulse that serves the last of a VALVE's owed on-time, complete the
run or train at its aim: position, knowledge and end outcome as 01 R8, R11, R21 and R22 say, output off, slot free, a
settle pause begun and DRIVE_STATE due. The travel grows by the distance moved, but at an end without a switch, where the
drive is referenced; at an aim that is no end the knowledge falls to ESTIMATED where the travel passes
rereference_distance, and is kept otherwise (04 R90, R94, R97, R101, R110). Model's choices: log entries 18, 27 and 32. -/
def Obligations.RunsCompleteAtAim : Prop :=
  ∀ (s : State) (d : Drive), s.held = false → s.QueueOk → (s.drive d).motion.state = .running →
    let b := (s.drive d).book
    let grown (aim base : Nat) (t : State) :=
      let travel := min 65535 (b.travel + Machine.dist aim base)
      (endAt aim = none → (t.drive d).book = { b with
        position := aim, travel := travel,
        knowledge := (if s.comp.rereferenceDistance < travel ∧ b.knowledge = .referenced then .estimated
          else b.knowledge) }) ∧
      (∀ e, endAt aim = some e → (s.setup d).fitted e = true → (t.drive d).book.travel = travel)
    (∀ p : VentPlan, (s.drive d).motion.run = some (.vent p) → p.planned ≤ p.timer →
      ∃ t, exec (.plannedExpiry d) s = .next t ∧ ActsOn (· = d) (fun _ => False) s t ∧ QueuesSame s t ∧
        CompletedAt d p.aim s t ∧ grown p.aim (s.drive d).motion.travelBase t) ∧
    (∀ w : Train, (s.drive d).motion.run = none → (s.drive d).motion.train = some w → w.length ≤ w.elapsed →
      w.owed ≤ w.done + (w.length - (s.setup d).startLag) →
      ∃ t, exec (.pulseEnd d) s = .next t ∧ ActsOn (· = d) (fun _ => False) s t ∧ QueuesSame s t ∧
        CompletedAt d w.aim s t ∧ grown w.aim (s.drive d).book.position t)

/-- A full pulse that leaves owed on-time sets the position from the on-time done, begins the pause of pulse_off and marks
DRIVE_STATE at every noticeInterval-th pulse; when the pause ends the next pulse starts with the times then in the setup,
or an open trip contact makes it a trip (01 R11, R12, R22; 04 R97, R98, R110; 06 R128). -/
def Obligations.TrainsPauseBetweenPulses : Prop :=
  ∀ (s : State) (d : Drive) (w : Train), s.held = false → (s.drive d).motion.run = none →
    (s.drive d).motion.train = some w →
    let u := s.setup d
    let b := (s.drive d).book
    let m := (s.drive d).motion
    let done := w.done + (w.length - u.startLag)
    let stroke := match m.direction with
      | .opening => u.strokeOpen
      | .closing => u.strokeClose
    let moved := roundHalfUp (done * 1000) stroke
    let position := if w.start ≤ w.aim then min w.aim (w.start + moved) else max w.aim (w.start - moved)
    let travel := min 65535 (b.travel + Machine.dist position b.position)
    let point := w.number % u.noticeInterval = 0
    (m.state = .running → w.length ≤ w.elapsed → done < w.owed →
      ∃ t, exec (.pulseEnd d) s = .next t ∧ ActsOn (· = d) (fun _ => False) s t ∧ QueuesSame s t ∧
        t.arbiter = s.arbiter ∧ (∀ k, k ≠ d → t.drive k = s.drive k) ∧
        (t.drive d).book = { b with
          position := position, travel := travel,
          knowledge := (if s.comp.rereferenceDistance < travel ∧ b.knowledge = .referenced then .estimated
            else b.knowledge) } ∧
        (t.drive d).motion = { m with
          state := .pausing, train := some { w with done := done },
          pause := some { kind := .interPulse, left := w.pulseOff },
          lastProgress := (if point then some w.number else m.lastProgress),
          missedEnd := (t.drive d).motion.missedEnd } ∧
        (point → ∀ p, (s.drive d).subs.get p = true → Subject.driveState d ∈ (t.port p).notices)) ∧
    (m.state = .pausing → m.pause = some { kind := .interPulse, left := 0 } →
      ((s.drive d).pins.tripOpen = false → s.Settled →
        exec (.interPulseExpiry d) s = .next (s.withMotion d { m with
          state := .running, pause := none,
          train := some { w with
            number := w.number + 1, pulseOn := u.pulseOn, pulseOff := u.pulseOff, elapsed := 0,
            length := min u.pulseOn (w.owed - w.done + u.startLag) } })) ∧
      ((s.drive d).pins.tripOpen = true →
        ∃ t, exec (.interPulseExpiry d) s = .next t ∧ ActsOn (· = d) (fun _ => False) s t ∧ QueuesSame s t ∧
          Tripped d .trip s t))

/-- At the end of a settle pause, of a reversal pause and of a retry wait the drive becomes STOPPED and makes its decision;
a VENT or SCREEN that seeks motion with a slot free, no timer in the way and nobody before it is RUNNING at once, and a
VALVE whose trip contact is open is taken as tripped at its start. Whether a drive seeks motion, and its purpose, aim and
direction, are as 04 R84, R85 and 01 R23 give them case by case (04 R84 to R87, R94, R95, R106; 05 R118; 06 R128). -/
def Obligations.PausesEndInDecision : Prop :=
  (∀ (s : State) (d : Drive), ChoiceCases s d) ∧
  ∀ (s : State) (d : Drive) (c : Instr), s.held = false →
    (c = .settleExpiry d ∧ (s.drive d).motion.state = .pausing ∧
        (s.drive d).motion.pause = some { kind := .settle, left := 0 }) ∨
      (c = .reversalExpiry d ∧ (s.drive d).motion.state = .pausing ∧
        (s.drive d).motion.pause = some { kind := .reversal, left := 0 }) ∨
      (c = .retryWaitExpiry d ∧ (s.drive d).motion.state = .retryWait ∧ (s.drive d).motion.retryLeft = some 0) →
    ∃ t, exec c s = .next t ∧ ActsOn (· = d) (fun _ => False) s t ∧ QueuesSame s t ∧ Decided d s t ∧
      (s.seeksMotion d = true → (s.setup d).kind ≠ .valve → s.arbiter.restart = none → s.arbiter.spacing = none →
        s.arbiter.holders.length < s.comp.slotLimit → s.arbiter.queue = [] → (s.drive d).pins.tripOpen = false →
        (t.drive d).motion.state = .running ∧ t.arbiter.holders = s.arbiter.holders ++ [d] ∧ t.arbiter.queue = []) ∧
      (s.seeksMotion d = true → (s.setup d).kind = .valve → s.arbiter.restart = none →
        (s.drive d).pins.tripOpen = true → Tripped d .trip s t)

/-! ### Trips, pulses and switches -/

/-- The pulse-gap expiry of a RUNNING SCREEN is a stall, and a trip contact that becomes active is a trip of a RUNNING drive
that takes its inputs; in any other motion state, or for a drive that takes none, it changes the input alone, and a
contact that becomes inactive never does more. In the hold of a warm reset the input is not taken: the level at the pin
alone changes. A contact that already stands so does not change (06 R128 to R131; 10 R205).
Model's choices: log entries 1, 8, 19, 32 and 43. -/
def Obligations.TripsAndStallsEndRuns : Prop :=
  ∀ (s : State) (d : Drive),
    let pins := (s.drive d).pins
    (s.held = false → s.QueueOk → (s.drive d).motion.state = .running → (s.drive d).motion.pulseGap = some 0 →
      ∃ t, exec (.stall d) s = .next t ∧ ActsOn (· = d) (fun _ => False) s t ∧ QueuesSame s t ∧ Tripped d .stall s t) ∧
    (s.held = false → s.QueueOk → (s.drive d).motion.state = .running → (s.setup d).kind ≠ .unused →
      pins.tripPin = false → pins.tripOpen = false →
      ∃ t, exec (.tripContactActive d) s = .next t ∧
        ActsOn (· = d) (fun _ => False) (s.withPins d { pins with tripPin := true, tripOpen := true }) t ∧
        QueuesSame s t ∧ Tripped d .trip s t) ∧
    (s.Settled → s.held = false → (s.drive d).motion.state ≠ .running ∨ (s.setup d).kind = .unused →
      pins.tripPin = false → exec (.tripContactActive d) s =
        .next (s.withPins d { pins with tripPin := true, tripOpen := true })) ∧
    (s.Settled → s.held = false → pins.tripPin = true → exec (.tripContactInactive d) s =
      .next (s.withPins d { pins with tripPin := false, tripOpen := false })) ∧
    (s.held = true → exec (.tripContactActive d) s = .next (s.withPins d { pins with tripPin := true }) ∧
      exec (.tripContactInactive d) s = .next (s.withPins d { pins with tripPin := false })) ∧
    (pins.tripPin = true → exec (.tripContactActive d) s = .next s) ∧
    (pins.tripPin = false → exec (.tripContactInactive d) s = .next s)

/-- An encoder pulse of a RUNNING SCREEN moves its count by one toward the run's direction, restarts the pulse-gap timer and
completes the run at the target count, at the end of the overrun, or after a homing's pulses; a pulse in a coast window
moves the count in the direction of the run before; a stray pulse lowers the knowledge; and when the coast window closes
the travel of the run is reckoned. A pulse of a run that newly reaches a progress point records it and marks DRIVE_STATE.
In the hold of a warm reset a pulse is not taken and nothing changes (01 R13 to R16, R22, R24; 04 R90, R109; 06 R129; 10 R205).
Model's choices: log entries 18, 24, 27 and 38. -/
def Obligations.PulsesMoveScreens : Prop :=
  (∀ (s : State) (d : Drive), s.held = true → exec (.encoderPulse d) s = .next s) ∧
  ∀ (s : State) (d : Drive), s.held = false →
    let u := s.setup d
    let m := (s.drive d).motion
    let b := (s.drive d).book
    let step (dir : Direction) := match dir with
      | .opening => min u.pps (b.count + 1)
      | .closing => b.count - 1
    let moved (dir : Direction) : Book := { b with
      count := step dir, position := roundHalfUp (step dir * 1000) u.pps }
    let atEnd (n : Nat) : Bool := match m.direction with
      | .opening => decide (u.pps ≤ n)
      | .closing => decide (n = 0)
    (u.kind = .screen → m.state = .running → ∀ p : ScreenPlan, m.run = some (.screen p) → s.QueueOk →
      let tally := if m.purpose = .home ∨ ((endAt p.aim).isSome = true ∧ atEnd b.count = true) then p.tally + 1 else p.tally
      let n := step m.direction
      let complete := if m.purpose = .home then u.pps + u.overrunPulses ≤ tally
        else if (endAt p.aim).isSome = true then atEnd n = true ∧ u.overrunPulses ≤ tally
        else match m.direction with
          | .opening => p.targetCount ≤ n
          | .closing => n ≤ p.targetCount
      ∃ t, exec (.encoderPulse d) s = .next t ∧ ActsOn (· = d) (fun _ => False) s t ∧ QueuesSame s t ∧
        (∀ k, ReachedPoint u m (moved m.direction).position k →
          (t.drive d).motion.lastProgress = some k ∧ Notified d s t) ∧
        ((∀ k, ¬ ReachedPoint u m (moved m.direction).position k) →
          (t.drive d).motion.lastProgress = m.lastProgress) ∧
        (¬ complete → (t.drive d).book = moved m.direction ∧ (t.drive d).motion = { m with
          run := some (.screen { p with tally := tally }), pulseGap := some u.stallGap,
          lastProgress := (t.drive d).motion.lastProgress, missedEnd := (t.drive d).motion.missedEnd }) ∧
        (complete → NormalStop d s t ∧ (t.drive d).motion.coast = some { left := 10, direction := m.direction } ∧
          (endAt p.aim = none → (t.drive d).book = moved m.direction) ∧
          ((endAt p.aim).isSome = true → CompletedAt d p.aim s t))) ∧
    (u.kind = .screen → m.state ≠ .absent → m.state ≠ .running → ∀ c : Coast, m.coast = some c →
      ∃ t, exec (.encoderPulse d) s = .next t ∧ ActsOn (· = d) (fun _ => False) s t ∧ QueuesSame s t ∧
        (t.drive d).book.count = (moved c.direction).count ∧
        (t.drive d).book.position = (moved c.direction).position) ∧
    (u.kind = .screen → m.state ≠ .absent → m.state ≠ .running → m.coast = none →
      ∃ t, exec (.encoderPulse d) s = .next t ∧ ActsOn (· = d) (fun _ => False) s t ∧ QueuesSame s t ∧
        (t.drive d).book = { b with
          knowledge := (if b.knowledge = .referenced then .estimated else b.knowledge) }) ∧
    (u.kind ≠ .screen ∨ m.state = .absent → exec (.encoderPulse d) s = .next s) ∧
    (∀ c : Coast, m.coast = some c → c.left = 0 →
      let travel := min 65535 (b.travel + Machine.dist b.position m.travelBase)
      ∃ t, exec (.coastWindowExpiry d) s = .next t ∧ ActsOn (· = d) (fun _ => False) s t ∧ QueuesSame s t ∧
        (t.drive d).book = { b with
          travel := travel,
          knowledge := (if s.comp.rereferenceDistance < travel ∧ b.knowledge = .referenced then .estimated
            else b.knowledge) } ∧
        (m.state ≠ .queued → (t.drive d).motion = { m with
          coast := none, missedEnd := (t.drive d).motion.missedEnd }))

/-- A fitted switch that becomes active is BOTH_ENDS if the other is active too, WRONG_END in a run away from it, a normal
stop referenced at its end in a run toward it or in a pause of a train, and a reference at its end otherwise; one that
becomes inactive lowers the knowledge of a drive that stood REFERENCED at its end. A switch that is not fitted, or of a
drive that takes no inputs, changes its input alone. In the hold of a warm reset a switch is not taken: the level at the pin
alone changes. A switch that already stands so does not change (01 R1, R17 to R20; 04 R101; 06 R134 to R136; 10 R205).
Model's choices: log entries 1, 8 and 16. -/
def Obligations.SwitchesReferenceAndFault : Prop :=
  (∀ (s : State) (d : Drive) (e : End) (on : Bool),
    let change : Instr := if on then .switchActive d e else .switchInactive d e
    ((s.drive d).pins.level e = on → exec change s = .next s) ∧
    (s.held = true → (s.drive d).pins.level e = !on →
      exec change s = .next (s.withPins d ((s.drive d).pins.withLevel e on)))) ∧
  ∀ (s : State) (d : Drive) (e : End), s.held = false →
    let m := (s.drive d).motion
    let b := (s.drive d).book
    let pins (on : Bool) := ((s.drive d).pins.withLevel e on).withTaken e on
    let takes := (s.setup d).kind ≠ .unused ∧ m.state ≠ .absent
    let fitted := match e with
      | .closed => (s.setup d).closedSwitch = true
      | .opened => (s.setup d).openSwitch = true
    let toward := match e with
      | .closed => m.direction = .closing
      | .opened => m.direction = .opening
    ((s.drive d).pins.level e = false → (s.drive d).pins.taken e = false → takes → fitted → s.QueueOk →
      ∃ t, exec (.switchActive d e) s = .next t ∧ ActsOn (· = d) (fun _ => False) (s.withPins d (pins true)) t ∧
        QueuesSame s t ∧
        (s.switchOn d (otherEnd e) = true → FaultedBy d .bothEnds s t) ∧
        (s.switchOn d (otherEnd e) = false →
          (m.state = .running → ¬ toward → FaultedBy d .wrongEnd s t) ∧
          ((m.state = .running ∧ toward) ∨ (m.state ≠ .running ∧ m.train.isSome = true) →
            ReferencedAt d e s t ∧ NormalStop d s t ∧
            (e = .closed → m.purpose = .home → (t.drive d).motion.homeMarker = false)) ∧
          (m.state ≠ .running → m.train = none → (s.drive d).pins.tripOpen = false →
            ReferencedAt d e s t ∧
            (e = .closed → m.state = .stopped ∨ m.state = .queued ∨ m.state = .faulted ∨ m.state = .locked →
              (t.drive d).motion.homeMarker = false)))) ∧
    ((s.drive d).pins.level e = true → (s.drive d).pins.taken e = true → takes → fitted →
      ∃ t, exec (.switchInactive d e) s = .next t ∧ ActsOn (· = d) (fun _ => False) (s.withPins d (pins false)) t ∧
        QueuesSame s t ∧ (t.drive d).faults.bothHeld = false ∧
        let leaves := m.state ≠ .running ∧ m.coast = none ∧ b.position = endPosition e ∧ b.knowledge = .referenced
        (leaves → (t.drive d).book = { b with knowledge := .estimated }) ∧
        (¬ leaves → (t.drive d).book = b ∧ (t.drive d).motion = m)) ∧
    (s.Settled → ¬ (takes ∧ fitted) → ∀ on : Bool, (s.drive d).pins.level e = !on →
      exec (if on then .switchActive d e else .switchInactive d e) s = .next (s.withPins d (pins on)))

/-- A RUNNING VENT that has reached a whole multiple of notice_interval beyond its start and beyond the last point reached
records it and marks DRIVE_STATE pending for the drive's subscribers; nothing else of the drive changes (04 R109). -/
def Obligations.ProgressPointMarksDrive : Prop :=
  ∀ (s : State) (d : Drive) (p : VentPlan) (k : Nat), s.held = false → (s.drive d).motion.state = .running →
    (s.drive d).motion.run = some (.vent p) →
    let n := (s.setup d).noticeInterval
    let m := (s.drive d).motion
    let x := s.livePosition d
    0 < n → n ∣ k →
    (match m.direction with
      | .opening => k ≤ x ∧ x < k + n ∧ m.travelBase < k ∧ ∀ l, m.lastProgress = some l → l < k
      | .closing => x ≤ k ∧ k < x + n ∧ k < m.travelBase ∧ ∀ l, m.lastProgress = some l → k < l) →
    ∃ t, exec (.progressPointReached d) s = .next t ∧ ActsOn (· = d) (fun _ => False) s t ∧ QueuesSame s t ∧
      t.arbiter = s.arbiter ∧ (∀ j, j ≠ d → t.drive j = s.drive j) ∧
      t.drive d = { s.drive d with motion := { m with lastProgress := some k } } ∧
      ∀ q, (s.drive d).subs.get q = true → Subject.driveState d ∈ (t.port q).notices

/-! ### The lines -/

/-- A request frame joins the tail of its port's inbound queue while that has a place, one of another kind or for a full
queue is discarded, and none is received while the port transmits or the unit is held in reset. The bytes of a frame that
arrive one after the other do what its arrival does. A gap discards what a receiver holds (08 R170 to R172, R183; 10
R205). Model's choices: log entries 5, 31 and 54. -/
def Obligations.LinesReceiveFrames : Prop :=
  (∀ (s : State) (p : Port) (f : Frame),
    let q := s.port p
    (s.held = false → q.sending = none → f.payload.length ≤ 120 →
      exec (.requestArrival p f.kind f.tag f.payload) s = .next (s.setPort p { q with
        receiver := .hunting, quiet := false,
        inbound := (if 1 ≤ f.kind.toNat ∧ f.kind.toNat ≤ 25 ∧ q.inbound.length < 4 then q.inbound ++ [f]
          else q.inbound) }) ∧
      (q.receiver = .hunting → byteByByte p s f.bytes = exec (.requestArrival p f.kind f.tag f.payload) s)) ∧
    (s.held = true ∨ q.sending.isSome = true → exec (.requestArrival p f.kind f.tag f.payload) s = .next s ∧
      ∀ b, exec (.byteArrival (.master p) b) s = .next (s.setPort p { q with quiet := false }))) ∧
  (∀ (s : State) (p : Port) (b : Byte), s.held = false → (s.port p).sending = none →
    ((s.port p).receiver.take b).2 = none →
    exec (.byteArrival (.master p) b) s =
      .next (s.setPort p { s.port p with receiver := ((s.port p).receiver.take b).1, quiet := false })) ∧
  (∀ (s : State) (b : Byte), s.Settled →
    (s.held = true → exec (.byteArrival .weather b) s = .next s) ∧
    (s.held = false → (s.weatherRx.take b).2 = none →
      exec (.byteArrival .weather b) s = .next { s with weatherRx := (s.weatherRx.take b).1 }) ∧
    (s.held = false → ∀ f, (s.weatherRx.take b).2 = some f →
      (∀ o, f.kind = 0x40#8 → readObservation f.payload = some o →
        exec (.byteArrival .weather b) s = exec (.observation o) s) ∧
      (f.kind ≠ 0x40#8 ∨ readObservation f.payload = none →
        exec (.byteArrival .weather b) s = .next { s with weatherRx := .hunting }))) ∧
  (∀ (s : State) (p : Port), exec (.interByteGap (.master p)) s =
    .next (s.setPort p { s.port p with receiver := .hunting, quiet := true })) ∧
  ∀ s : State, exec (.interByteGap .weather) s = .next { s with weatherRx := .hunting }

/-- A free transmitter on a quiet line takes the head of the reply queue or of the notice queue, in turn when both hold
something; a notice bears the kind of its subject, the notice sequence as its tag, and the record as it stands; an empty
port and a line that is not free send nothing; and the last byte leaves the transmitter IDLE (08 R183 to R185, 09 R197,
R198). Model's choices: log entries 1, 5, 29 and 42. -/
def Obligations.TransmitterSendsInTurn : Prop :=
  ∀ (s : State) (p : Port),
    let q := s.port p
    let free := s.held = false ∧ q.sending = none ∧ q.receiver = .hunting ∧ q.quiet = true
    (∀ f rest, free → q.replies = f :: rest → q.notices = [] ∨ q.lastSource = .notice →
      exec (.transmitBegin p) s = .next (s.setPort p { q with
        replies := rest, sending := some f.bytes, lastSource := .reply })) ∧
    (∀ x rest, free → q.notices = x :: rest → q.replies = [] ∨ q.lastSource = .reply →
      let kind : Byte := match x with
        | .driveState _ => 0xC1#8
        | .displaced _ => 0xC2#8
        | .sweepDone _ => 0xC3#8
        | .envelope => 0xC4#8
        | .faultSummary => 0xC5#8
      let payload : List Byte := match x with
        | .driveState d => s.driveStatus d
        | .displaced d =>
          if p = .climate then byte1 (driveNumber d) ++ byte1 2 ++ (match (s.drive d).demand.displacedClimate with
            | some y => byte1 y.code
            | none => [0xFF#8])
          else byte1 (driveNumber d) ++ byte1 1 ++ (match (s.drive d).demand.displacedPanel with
            | some y => byte1 y.code
            | none => [0xFF#8])
        | .sweepDone c => (s.sweep c).record c
        | .envelope => s.envelope.record
        | .faultSummary => s.faults.summary.record
      exec (.transmitBegin p) s = .next (s.setPort p { q with
        notices := rest, sending := some (Frame.bytes { kind := kind, tag := q.sequence, payload := payload }),
        lastSource := .notice, sequence := q.sequence + 1 })) ∧
    (¬ free ∨ (q.replies = [] ∧ q.notices = []) → exec (.transmitBegin p) s = .next s) ∧
    exec (.transmitCompletion p) s = .next (s.setPort p { q with sending := none })

/-! ### Resets -/

/-- A warm reset during a hold changes the reset line alone and one during a save is deferred; otherwise it holds the unit
with every output off, keeps settings, store, lockouts, spacing timer and inputs, empties the stack, the ports, the
sweeps, the slots and the fault table, gives the envelope its reset state, and leaves each position as the early-stop rule
finds it, UNKNOWN where a run or a queue was cut; a STOPPED, LOCKED or ABSENT drive with no window open keeps its
knowledge, every drive its count, and the travel grows only by what a run or its coasting moved. Slots and start queue
hold nothing from before: arrivals begin afresh, one drive at most is granted in the reset, none while the spacing timer
runs, and then every VENT and SCREEN that is not ABSENT or LOCKED and seeks motion waits. When the line comes to rest the
hold ends: the stale timer starts and the levels of the inputs are taken (01 R22, R26, 02 R55, 03 R79, R80, 04 R112, 05
R127, 06 R146, 07 R168, 08 R186, 09 R199, 10 R205). Model's choices: log entries 8, 9, 20, 25, 43, 49 and 55. -/
def Obligations.WarmResetHoldsThenEnds : Prop :=
  (∀ (s : State) (order : List Drive), s.Settled → s.resetLine = false →
    (s.held = true → exec (.warmReset order) s = .next { s with resetLine := true }) ∧
    (s.held = false → s.store.save.isSome = true → exec (.warmReset order) s =
      .next { s with resetLine := true, store := { s.store with deferredReset := true } }) ∧
    (s.held = false → s.store.save = none →
      ∃ t, exec (.warmReset order) s = .next t ∧ t.held = true ∧ t.resetLine = true ∧ t.settings = s.settings ∧
        t.store = { s.store with deferredReset := false } ∧ t.pending = s.pending ∧
        (∀ d dir, t.outputOn d dir = false) ∧ PortsReset t ∧ t.sweeps = {} ∧
        t.envelope = { stale := some s.comp.staleTimeout, frostFloor := s.comp.frostMaxFloor } ∧
        t.arbiter.restart = none ∧ t.arbiter.holders.length ≤ 1 ∧ t.arbiter.nextArrival ≤ 24 ∧
        (∀ e ∈ t.arbiter.queue, e.arrival < t.arbiter.nextArrival) ∧
        (∀ d, d ∈ t.arbiter.holders ∨ d ∈ t.waiting → (s.setup d).kind = .vent ∨ (s.setup d).kind = .screen) ∧
        (s.arbiter.spacing.isSome = true → t.arbiter.spacing = s.arbiter.spacing ∧ t.arbiter.holders = [] ∧
          ∀ d, (s.setup d).kind = .vent ∨ (s.setup d).kind = .screen → (s.drive d).motion.state ≠ .absent →
            (s.drive d).demand.lockout = false → (s.drive d).motion.state ≠ .locked →
            (d ∈ t.waiting ↔ t.seeksMotion d = true) ∧
            (t.drive d).motion.state = if t.seeksMotion d = true then .queued else .stopped) ∧
        t.faults.staleActive = false ∧ t.faults.staleLatched = false ∧
        t.faults.storeActive = s.store.imageFailed ∧ t.faults.storeLatched = s.store.imageFailed ∧
        ∀ d, DemandReset t d (s.livePosition d) ∧ (t.drive d).demand.lockout = (s.drive d).demand.lockout ∧
          (t.drive d).book.position = s.livePosition d ∧ (t.drive d).pins = (s.drive d).pins ∧
          (t.drive d).motion.homeMarker = false ∧ (t.drive d).motion.missedEnd = none ∧
          (t.drive d).book.count = (s.drive d).book.count ∧
          ((s.drive d).motion.state = .stopped ∨ (s.drive d).motion.state = .locked ∨
              (s.drive d).motion.state = .absent →
            (s.drive d).motion.run = none → (s.drive d).motion.coast = none → (s.drive d).pins.tripOpen = false →
            (t.drive d).book = (s.drive d).book) ∧
          (let grown (n : Nat) := min 65535 ((s.drive d).book.travel + n)
           let m := (s.drive d).motion
           let b := (s.drive d).book
           (m.state ≠ .running → m.run = none → m.coast = none → (t.drive d).book.travel = b.travel) ∧
           (m.state ≠ .running → m.run = none → m.coast.isSome = true →
             (t.drive d).book.travel = grown (Machine.dist b.position m.travelBase)) ∧
           (∀ v, m.state = .running → m.run = some (.screen v) →
             (t.drive d).book.travel = grown (Machine.dist b.position m.travelBase)) ∧
           (∀ v, m.state = .running → m.run = some (.vent v) → m.coast = none →
             (t.drive d).book.travel = grown (Machine.dist (s.livePosition d) m.travelBase)) ∧
           (m.state = .running → m.run = none → m.train.isSome = true → m.coast = none →
             (t.drive d).book.travel = grown (Machine.dist (s.livePosition d) b.position))) ∧
          ((s.drive d).motion.state = .running ∨ (s.drive d).motion.state = .queued ∨
              (s.drive d).motion.state = .pausing ∨ (s.drive d).motion.state = .retryWait →
            (t.drive d).book.knowledge = .unknown) ∧
          ((s.drive d).motion.state = .faulted → (t.drive d).book.knowledge =
            if (s.drive d).book.knowledge = .unknown then .unknown else .estimated) ∧
          ((s.drive d).motion.state = .absent → (t.drive d).motion.state = .absent ∧
            (t.drive d).faults.latched.cardAbsent = true) ∧
          ((s.drive d).motion.state ≠ .absent → (s.drive d).demand.lockout = true →
            (t.drive d).motion.state = .locked) ∧
          ((s.drive d).pins.tripOpen = false → (t.drive d).motion.retryCount = 0 ∧ (t.drive d).motion.cause = none ∧
            (t.drive d).faults = { latched := { cardAbsent := (s.drive d).motion.state == .absent } }))) ∧
  ∀ (s : State) (order : List Drive), s.resetLine = true →
    (s.Settled → s.held = false → exec (.resetHoldEnd order) s = .next { s with resetLine := false }) ∧
    (s.held = true → s.QueueOk →
      ∃ t, exec (.resetHoldEnd order) s = .next t ∧ t.held = false ∧ t.resetLine = false ∧
        t.envelope = { s.envelope with stale := some s.comp.staleTimeout } ∧ t.settings = s.settings ∧
        t.store = s.store ∧ SweepsSame s t ∧ QueuesSame s t ∧ t.pending = s.pending ∧ t.envSubs = s.envSubs ∧
        ∀ d, (t.drive d).demand = (s.drive d).demand ∧ (t.drive d).subs = (s.drive d).subs ∧
          (t.drive d).pins = { (s.drive d).pins with
            closedTaken := (s.drive d).pins.closedPin, openTaken := (s.drive d).pins.openPin,
            tripOpen := (s.drive d).pins.tripPin } ∧
          ((s.drive d).pins.tripPin = true → (s.drive d).pins.tripOpen = false → (s.setup d).kind ≠ .unused →
            (s.drive d).motion.state = .running → (∀ e, (s.drive d).pins.level e = (s.drive d).pins.taken e) →
            s.bothOn d = false → Tripped d .trip s t) ∧
          ((t.drive d).pins = (s.drive d).pins → s.bothOn d = false → d ∉ s.waiting → t.drive d = s.drive d) ∧
          ∀ e, (s.drive d).pins.level e = true → (s.drive d).pins.taken e = false →
            (s.drive d).pins.level (otherEnd e) = false → (s.drive d).pins.taken (otherEnd e) = false →
            (s.setup d).kind ≠ .unused → (s.setup d).fitted e = true → (s.drive d).motion.train = none →
            (s.drive d).pins.tripOpen = false → (s.drive d).pins.tripPin = false →
            (s.drive d).motion.state = .stopped ∨ (s.drive d).motion.state = .locked → ReferencedAt d e s t)

/-- A cold reset takes the stored image, or the factory defaults with STORE_INVALID reported where it fails its check, and
gives every block its cold-reset values, with the restart hold running; each drive is ABSENT, LOCKED, STOPPED or QUEUED at
position 0 with knowledge UNKNOWN, but for a drive with an active switch, which is referenced at its end, and one with
both, which is FAULTED (01 R25, 02 R54, 03 R79, 04 R111, 05 R126, 06 R145, 07 R167, 08 R186, 09 R199, 10 R204).
The CRC of an image that the reset cuts is free. That the completion orders of the sweeps begin afresh at 0 is the model's
choice (log entry 49). Model's choices: log entries 7, 9, 13, 14, 21, 22, 43 and 49. -/
def Obligations.ColdResetStartsAfresh : Prop :=
  ∀ (s : State) (present : Vector Bool 6) (cut : Bool) (order : List Drive),
    let intact := s.store.intact && !(s.store.save.isSome && cut)
    let img : Image := if intact then s.store.stored else {}
    ∃ t, exec (.coldReset present cut order) s = .next t ∧ t.settings = img.settings ∧
      t.store = { stored := s.store.stored, crc := t.store.crc, intact := intact, imageFailed := !intact,
                  present := present } ∧
      ((s.store.save.isSome && cut) = false → t.store.crc = s.store.crc) ∧
      t.held = false ∧ t.resetLine = s.resetLine ∧ t.pending = s.pending ∧ PortsReset t ∧ t.sweeps = {} ∧
      t.envelope = { stale := some img.settings.compartment.staleTimeout,
                     frostFloor := img.settings.compartment.frostMaxFloor } ∧
      t.arbiter.restart = some img.settings.compartment.restartHold ∧ t.arbiter.holders = [] ∧
      t.arbiter.spacing = none ∧ t.faults.staleActive = false ∧ t.faults.staleLatched = false ∧
      t.faults.storeActive = !intact ∧ t.faults.storeLatched = !intact ∧
      ∀ d, DemandReset t d 0 ∧ (t.drive d).demand.lockout = img.lockouts.contains d ∧
        (t.drive d).pins = { (s.drive d).pins with
          closedTaken := (s.drive d).pins.closedPin, openTaken := (s.drive d).pins.openPin,
          tripOpen := (s.drive d).pins.tripPin } ∧
        (t.drive d).motion.retryCount = 0 ∧ (t.drive d).motion.homeMarker = false ∧
        (t.drive d).motion.missedEnd = none ∧ (t.drive d).faults.tripCount = 0 ∧
        let absent := (t.setup d).kind ≠ .unused ∧ present[cardOf d] = false
        let active (e : End) := (t.setup d).kind ≠ .unused ∧ ¬ absent ∧ (t.setup d).fitted e = true ∧
          (s.drive d).pins.level e = true
        (absent → (t.drive d).motion.state = .absent ∧ (t.drive d).faults.latched.cardAbsent = true) ∧
        (¬ active .closed → ¬ active .opened → (t.drive d).book = { knowledge := .unknown } ∧
          (t.drive d).motion.cause = none ∧
          (¬ absent → (t.drive d).demand.lockout = true → (t.drive d).motion.state = .locked) ∧
          (¬ absent → (t.drive d).demand.lockout = false →
            (t.drive d).motion.state =
              if ((t.setup d).kind = .vent ∨ (t.setup d).kind = .screen) ∧
                  seeks (t.setup d) { demand := (t.drive d).demand } = true then .queued
              else .stopped)) ∧
        (∀ e, active e → ¬ active (otherEnd e) → ReferencedAt d e t t) ∧
        (active .closed → active .opened → FaultedBy d .bothEnds t t)
end

