-- ==== Sys2Proof/Laws/State.lean ====
section
/-! SUPPORT. Every field of the state after every named update: one lemma per field per update, so that no proof unfolds a record
update; and the same for the accessors of one drive, one port and one sweep context. -/

namespace Sys2Proof.Machine

variable (s : State)

@[simp] theorem State.setDrive_envelope (d : Drive) (r : DriveRec) : (s.setDrive d r).envelope = s.envelope := rfl
@[simp] theorem State.setDrive_arbiter (d : Drive) (r : DriveRec) : (s.setDrive d r).arbiter = s.arbiter := rfl
@[simp] theorem State.setDrive_faults (d : Drive) (r : DriveRec) : (s.setDrive d r).faults = s.faults := rfl
@[simp] theorem State.setDrive_sweeps (d : Drive) (r : DriveRec) : (s.setDrive d r).sweeps = s.sweeps := rfl
@[simp] theorem State.setDrive_ports (d : Drive) (r : DriveRec) : (s.setDrive d r).ports = s.ports := rfl
@[simp] theorem State.setDrive_weatherRx (d : Drive) (r : DriveRec) : (s.setDrive d r).weatherRx = s.weatherRx := rfl
@[simp] theorem State.setDrive_turn (d : Drive) (r : DriveRec) : (s.setDrive d r).turn = s.turn := rfl
@[simp] theorem State.setDrive_envSubs (d : Drive) (r : DriveRec) : (s.setDrive d r).envSubs = s.envSubs := rfl
@[simp] theorem State.setDrive_settings (d : Drive) (r : DriveRec) : (s.setDrive d r).settings = s.settings := rfl
@[simp] theorem State.setDrive_store (d : Drive) (r : DriveRec) : (s.setDrive d r).store = s.store := rfl
@[simp] theorem State.setDrive_held (d : Drive) (r : DriveRec) : (s.setDrive d r).held = s.held := rfl
@[simp] theorem State.setDrive_resetLine (d : Drive) (r : DriveRec) : (s.setDrive d r).resetLine = s.resetLine := rfl
@[simp] theorem State.setDrive_freeCount (d : Drive) (r : DriveRec) : (s.setDrive d r).freeCount = s.freeCount := rfl
@[simp] theorem State.setDrive_granted (d : Drive) (r : DriveRec) : (s.setDrive d r).granted = s.granted := rfl
@[simp] theorem State.setDrive_pending (d : Drive) (r : DriveRec) : (s.setDrive d r).pending = s.pending := rfl
@[simp] theorem State.setDrive_port (d : Drive) (r : DriveRec) (q : Port) : (s.setDrive d r).port q = s.port q := rfl
@[simp] theorem State.setDrive_sweep (d : Drive) (r : DriveRec) (k : Context) : (s.setDrive d r).sweep k = s.sweep k := rfl
@[simp] theorem State.setDrive_setup (d : Drive) (r : DriveRec) (k : Drive) : (s.setDrive d r).setup k = s.setup k := rfl
@[simp] theorem State.setDrive_comp (d : Drive) (r : DriveRec) : (s.setDrive d r).comp = s.comp := rfl

@[simp] theorem State.withMotion_envelope (d : Drive) (x : Motion) : (s.withMotion d x).envelope = s.envelope := rfl
@[simp] theorem State.withMotion_arbiter (d : Drive) (x : Motion) : (s.withMotion d x).arbiter = s.arbiter := rfl
@[simp] theorem State.withMotion_faults (d : Drive) (x : Motion) : (s.withMotion d x).faults = s.faults := rfl
@[simp] theorem State.withMotion_sweeps (d : Drive) (x : Motion) : (s.withMotion d x).sweeps = s.sweeps := rfl
@[simp] theorem State.withMotion_ports (d : Drive) (x : Motion) : (s.withMotion d x).ports = s.ports := rfl
@[simp] theorem State.withMotion_weatherRx (d : Drive) (x : Motion) : (s.withMotion d x).weatherRx = s.weatherRx := rfl
@[simp] theorem State.withMotion_turn (d : Drive) (x : Motion) : (s.withMotion d x).turn = s.turn := rfl
@[simp] theorem State.withMotion_envSubs (d : Drive) (x : Motion) : (s.withMotion d x).envSubs = s.envSubs := rfl
@[simp] theorem State.withMotion_settings (d : Drive) (x : Motion) : (s.withMotion d x).settings = s.settings := rfl
@[simp] theorem State.withMotion_store (d : Drive) (x : Motion) : (s.withMotion d x).store = s.store := rfl
@[simp] theorem State.withMotion_held (d : Drive) (x : Motion) : (s.withMotion d x).held = s.held := rfl
@[simp] theorem State.withMotion_resetLine (d : Drive) (x : Motion) : (s.withMotion d x).resetLine = s.resetLine := rfl
@[simp] theorem State.withMotion_freeCount (d : Drive) (x : Motion) : (s.withMotion d x).freeCount = s.freeCount := rfl
@[simp] theorem State.withMotion_granted (d : Drive) (x : Motion) : (s.withMotion d x).granted = s.granted := rfl
@[simp] theorem State.withMotion_pending (d : Drive) (x : Motion) : (s.withMotion d x).pending = s.pending := rfl
@[simp] theorem State.withMotion_port (d : Drive) (x : Motion) (q : Port) : (s.withMotion d x).port q = s.port q := rfl
@[simp] theorem State.withMotion_sweep (d : Drive) (x : Motion) (k : Context) : (s.withMotion d x).sweep k = s.sweep k := rfl
@[simp] theorem State.withMotion_setup (d : Drive) (x : Motion) (k : Drive) : (s.withMotion d x).setup k = s.setup k := rfl
@[simp] theorem State.withMotion_comp (d : Drive) (x : Motion) : (s.withMotion d x).comp = s.comp := rfl

@[simp] theorem State.withDemand_envelope (d : Drive) (x : Demand) : (s.withDemand d x).envelope = s.envelope := rfl
@[simp] theorem State.withDemand_arbiter (d : Drive) (x : Demand) : (s.withDemand d x).arbiter = s.arbiter := rfl
@[simp] theorem State.withDemand_faults (d : Drive) (x : Demand) : (s.withDemand d x).faults = s.faults := rfl
@[simp] theorem State.withDemand_sweeps (d : Drive) (x : Demand) : (s.withDemand d x).sweeps = s.sweeps := rfl
@[simp] theorem State.withDemand_ports (d : Drive) (x : Demand) : (s.withDemand d x).ports = s.ports := rfl
@[simp] theorem State.withDemand_weatherRx (d : Drive) (x : Demand) : (s.withDemand d x).weatherRx = s.weatherRx := rfl
@[simp] theorem State.withDemand_turn (d : Drive) (x : Demand) : (s.withDemand d x).turn = s.turn := rfl
@[simp] theorem State.withDemand_envSubs (d : Drive) (x : Demand) : (s.withDemand d x).envSubs = s.envSubs := rfl
@[simp] theorem State.withDemand_settings (d : Drive) (x : Demand) : (s.withDemand d x).settings = s.settings := rfl
@[simp] theorem State.withDemand_store (d : Drive) (x : Demand) : (s.withDemand d x).store = s.store := rfl
@[simp] theorem State.withDemand_held (d : Drive) (x : Demand) : (s.withDemand d x).held = s.held := rfl
@[simp] theorem State.withDemand_resetLine (d : Drive) (x : Demand) : (s.withDemand d x).resetLine = s.resetLine := rfl
@[simp] theorem State.withDemand_freeCount (d : Drive) (x : Demand) : (s.withDemand d x).freeCount = s.freeCount := rfl
@[simp] theorem State.withDemand_granted (d : Drive) (x : Demand) : (s.withDemand d x).granted = s.granted := rfl
@[simp] theorem State.withDemand_pending (d : Drive) (x : Demand) : (s.withDemand d x).pending = s.pending := rfl
@[simp] theorem State.withDemand_port (d : Drive) (x : Demand) (q : Port) : (s.withDemand d x).port q = s.port q := rfl
@[simp] theorem State.withDemand_sweep (d : Drive) (x : Demand) (k : Context) : (s.withDemand d x).sweep k = s.sweep k := rfl
@[simp] theorem State.withDemand_setup (d : Drive) (x : Demand) (k : Drive) : (s.withDemand d x).setup k = s.setup k := rfl
@[simp] theorem State.withDemand_comp (d : Drive) (x : Demand) : (s.withDemand d x).comp = s.comp := rfl

@[simp] theorem State.withFaults_envelope (d : Drive) (x : DriveFaults) : (s.withFaults d x).envelope = s.envelope := rfl
@[simp] theorem State.withFaults_arbiter (d : Drive) (x : DriveFaults) : (s.withFaults d x).arbiter = s.arbiter := rfl
@[simp] theorem State.withFaults_faults (d : Drive) (x : DriveFaults) : (s.withFaults d x).faults = s.faults := rfl
@[simp] theorem State.withFaults_sweeps (d : Drive) (x : DriveFaults) : (s.withFaults d x).sweeps = s.sweeps := rfl
@[simp] theorem State.withFaults_ports (d : Drive) (x : DriveFaults) : (s.withFaults d x).ports = s.ports := rfl
@[simp] theorem State.withFaults_weatherRx (d : Drive) (x : DriveFaults) : (s.withFaults d x).weatherRx = s.weatherRx := rfl
@[simp] theorem State.withFaults_turn (d : Drive) (x : DriveFaults) : (s.withFaults d x).turn = s.turn := rfl
@[simp] theorem State.withFaults_envSubs (d : Drive) (x : DriveFaults) : (s.withFaults d x).envSubs = s.envSubs := rfl
@[simp] theorem State.withFaults_settings (d : Drive) (x : DriveFaults) : (s.withFaults d x).settings = s.settings := rfl
@[simp] theorem State.withFaults_store (d : Drive) (x : DriveFaults) : (s.withFaults d x).store = s.store := rfl
@[simp] theorem State.withFaults_held (d : Drive) (x : DriveFaults) : (s.withFaults d x).held = s.held := rfl
@[simp] theorem State.withFaults_resetLine (d : Drive) (x : DriveFaults) : (s.withFaults d x).resetLine = s.resetLine := rfl
@[simp] theorem State.withFaults_freeCount (d : Drive) (x : DriveFaults) : (s.withFaults d x).freeCount = s.freeCount := rfl
@[simp] theorem State.withFaults_granted (d : Drive) (x : DriveFaults) : (s.withFaults d x).granted = s.granted := rfl
@[simp] theorem State.withFaults_pending (d : Drive) (x : DriveFaults) : (s.withFaults d x).pending = s.pending := rfl
@[simp] theorem State.withFaults_port (d : Drive) (x : DriveFaults) (q : Port) : (s.withFaults d x).port q = s.port q := rfl
@[simp] theorem State.withFaults_sweep (d : Drive) (x : DriveFaults) (k : Context) : (s.withFaults d x).sweep k = s.sweep k := rfl
@[simp] theorem State.withFaults_setup (d : Drive) (x : DriveFaults) (k : Drive) : (s.withFaults d x).setup k = s.setup k := rfl
@[simp] theorem State.withFaults_comp (d : Drive) (x : DriveFaults) : (s.withFaults d x).comp = s.comp := rfl

@[simp] theorem State.withPins_envelope (d : Drive) (x : Pins) : (s.withPins d x).envelope = s.envelope := rfl
@[simp] theorem State.withPins_arbiter (d : Drive) (x : Pins) : (s.withPins d x).arbiter = s.arbiter := rfl
@[simp] theorem State.withPins_faults (d : Drive) (x : Pins) : (s.withPins d x).faults = s.faults := rfl
@[simp] theorem State.withPins_sweeps (d : Drive) (x : Pins) : (s.withPins d x).sweeps = s.sweeps := rfl
@[simp] theorem State.withPins_ports (d : Drive) (x : Pins) : (s.withPins d x).ports = s.ports := rfl
@[simp] theorem State.withPins_weatherRx (d : Drive) (x : Pins) : (s.withPins d x).weatherRx = s.weatherRx := rfl
@[simp] theorem State.withPins_turn (d : Drive) (x : Pins) : (s.withPins d x).turn = s.turn := rfl
@[simp] theorem State.withPins_envSubs (d : Drive) (x : Pins) : (s.withPins d x).envSubs = s.envSubs := rfl
@[simp] theorem State.withPins_settings (d : Drive) (x : Pins) : (s.withPins d x).settings = s.settings := rfl
@[simp] theorem State.withPins_store (d : Drive) (x : Pins) : (s.withPins d x).store = s.store := rfl
@[simp] theorem State.withPins_held (d : Drive) (x : Pins) : (s.withPins d x).held = s.held := rfl
@[simp] theorem State.withPins_resetLine (d : Drive) (x : Pins) : (s.withPins d x).resetLine = s.resetLine := rfl
@[simp] theorem State.withPins_freeCount (d : Drive) (x : Pins) : (s.withPins d x).freeCount = s.freeCount := rfl
@[simp] theorem State.withPins_granted (d : Drive) (x : Pins) : (s.withPins d x).granted = s.granted := rfl
@[simp] theorem State.withPins_pending (d : Drive) (x : Pins) : (s.withPins d x).pending = s.pending := rfl
@[simp] theorem State.withPins_port (d : Drive) (x : Pins) (q : Port) : (s.withPins d x).port q = s.port q := rfl
@[simp] theorem State.withPins_sweep (d : Drive) (x : Pins) (k : Context) : (s.withPins d x).sweep k = s.sweep k := rfl
@[simp] theorem State.withPins_setup (d : Drive) (x : Pins) (k : Drive) : (s.withPins d x).setup k = s.setup k := rfl
@[simp] theorem State.withPins_comp (d : Drive) (x : Pins) : (s.withPins d x).comp = s.comp := rfl

@[simp] theorem State.withBook_envelope (d : Drive) (x : Book) : (s.withBook d x).envelope = s.envelope := rfl
@[simp] theorem State.withBook_arbiter (d : Drive) (x : Book) : (s.withBook d x).arbiter = s.arbiter := rfl
@[simp] theorem State.withBook_faults (d : Drive) (x : Book) : (s.withBook d x).faults = s.faults := rfl
@[simp] theorem State.withBook_sweeps (d : Drive) (x : Book) : (s.withBook d x).sweeps = s.sweeps := rfl
@[simp] theorem State.withBook_ports (d : Drive) (x : Book) : (s.withBook d x).ports = s.ports := rfl
@[simp] theorem State.withBook_weatherRx (d : Drive) (x : Book) : (s.withBook d x).weatherRx = s.weatherRx := rfl
@[simp] theorem State.withBook_turn (d : Drive) (x : Book) : (s.withBook d x).turn = s.turn := rfl
@[simp] theorem State.withBook_envSubs (d : Drive) (x : Book) : (s.withBook d x).envSubs = s.envSubs := rfl
@[simp] theorem State.withBook_settings (d : Drive) (x : Book) : (s.withBook d x).settings = s.settings := rfl
@[simp] theorem State.withBook_store (d : Drive) (x : Book) : (s.withBook d x).store = s.store := rfl
@[simp] theorem State.withBook_held (d : Drive) (x : Book) : (s.withBook d x).held = s.held := rfl
@[simp] theorem State.withBook_resetLine (d : Drive) (x : Book) : (s.withBook d x).resetLine = s.resetLine := rfl
@[simp] theorem State.withBook_freeCount (d : Drive) (x : Book) : (s.withBook d x).freeCount = s.freeCount := rfl
@[simp] theorem State.withBook_granted (d : Drive) (x : Book) : (s.withBook d x).granted = s.granted := rfl
@[simp] theorem State.withBook_pending (d : Drive) (x : Book) : (s.withBook d x).pending = s.pending := rfl
@[simp] theorem State.withBook_port (d : Drive) (x : Book) (q : Port) : (s.withBook d x).port q = s.port q := rfl
@[simp] theorem State.withBook_sweep (d : Drive) (x : Book) (k : Context) : (s.withBook d x).sweep k = s.sweep k := rfl
@[simp] theorem State.withBook_setup (d : Drive) (x : Book) (k : Drive) : (s.withBook d x).setup k = s.setup k := rfl
@[simp] theorem State.withBook_comp (d : Drive) (x : Book) : (s.withBook d x).comp = s.comp := rfl

@[simp] theorem State.withSubs_envelope (d : Drive) (x : PerPort Bool) : (s.withSubs d x).envelope = s.envelope := rfl
@[simp] theorem State.withSubs_arbiter (d : Drive) (x : PerPort Bool) : (s.withSubs d x).arbiter = s.arbiter := rfl
@[simp] theorem State.withSubs_faults (d : Drive) (x : PerPort Bool) : (s.withSubs d x).faults = s.faults := rfl
@[simp] theorem State.withSubs_sweeps (d : Drive) (x : PerPort Bool) : (s.withSubs d x).sweeps = s.sweeps := rfl
@[simp] theorem State.withSubs_ports (d : Drive) (x : PerPort Bool) : (s.withSubs d x).ports = s.ports := rfl
@[simp] theorem State.withSubs_weatherRx (d : Drive) (x : PerPort Bool) : (s.withSubs d x).weatherRx = s.weatherRx := rfl
@[simp] theorem State.withSubs_turn (d : Drive) (x : PerPort Bool) : (s.withSubs d x).turn = s.turn := rfl
@[simp] theorem State.withSubs_envSubs (d : Drive) (x : PerPort Bool) : (s.withSubs d x).envSubs = s.envSubs := rfl
@[simp] theorem State.withSubs_settings (d : Drive) (x : PerPort Bool) : (s.withSubs d x).settings = s.settings := rfl
@[simp] theorem State.withSubs_store (d : Drive) (x : PerPort Bool) : (s.withSubs d x).store = s.store := rfl
@[simp] theorem State.withSubs_held (d : Drive) (x : PerPort Bool) : (s.withSubs d x).held = s.held := rfl
@[simp] theorem State.withSubs_resetLine (d : Drive) (x : PerPort Bool) : (s.withSubs d x).resetLine = s.resetLine := rfl
@[simp] theorem State.withSubs_freeCount (d : Drive) (x : PerPort Bool) : (s.withSubs d x).freeCount = s.freeCount := rfl
@[simp] theorem State.withSubs_granted (d : Drive) (x : PerPort Bool) : (s.withSubs d x).granted = s.granted := rfl
@[simp] theorem State.withSubs_pending (d : Drive) (x : PerPort Bool) : (s.withSubs d x).pending = s.pending := rfl
@[simp] theorem State.withSubs_port (d : Drive) (x : PerPort Bool) (q : Port) : (s.withSubs d x).port q = s.port q := rfl
@[simp] theorem State.withSubs_sweep (d : Drive) (x : PerPort Bool) (k : Context) : (s.withSubs d x).sweep k = s.sweep k := rfl
@[simp] theorem State.withSubs_setup (d : Drive) (x : PerPort Bool) (k : Drive) : (s.withSubs d x).setup k = s.setup k := rfl
@[simp] theorem State.withSubs_comp (d : Drive) (x : PerPort Bool) : (s.withSubs d x).comp = s.comp := rfl

@[simp] theorem State.withSetup_drives (d : Drive) (x : Setup) : (s.withSetup d x).drives = s.drives := rfl
@[simp] theorem State.withSetup_envelope (d : Drive) (x : Setup) : (s.withSetup d x).envelope = s.envelope := rfl
@[simp] theorem State.withSetup_arbiter (d : Drive) (x : Setup) : (s.withSetup d x).arbiter = s.arbiter := rfl
@[simp] theorem State.withSetup_faults (d : Drive) (x : Setup) : (s.withSetup d x).faults = s.faults := rfl
@[simp] theorem State.withSetup_sweeps (d : Drive) (x : Setup) : (s.withSetup d x).sweeps = s.sweeps := rfl
@[simp] theorem State.withSetup_ports (d : Drive) (x : Setup) : (s.withSetup d x).ports = s.ports := rfl
@[simp] theorem State.withSetup_weatherRx (d : Drive) (x : Setup) : (s.withSetup d x).weatherRx = s.weatherRx := rfl
@[simp] theorem State.withSetup_turn (d : Drive) (x : Setup) : (s.withSetup d x).turn = s.turn := rfl
@[simp] theorem State.withSetup_envSubs (d : Drive) (x : Setup) : (s.withSetup d x).envSubs = s.envSubs := rfl
@[simp] theorem State.withSetup_store (d : Drive) (x : Setup) : (s.withSetup d x).store = s.store := rfl
@[simp] theorem State.withSetup_held (d : Drive) (x : Setup) : (s.withSetup d x).held = s.held := rfl
@[simp] theorem State.withSetup_resetLine (d : Drive) (x : Setup) : (s.withSetup d x).resetLine = s.resetLine := rfl
@[simp] theorem State.withSetup_freeCount (d : Drive) (x : Setup) : (s.withSetup d x).freeCount = s.freeCount := rfl
@[simp] theorem State.withSetup_granted (d : Drive) (x : Setup) : (s.withSetup d x).granted = s.granted := rfl
@[simp] theorem State.withSetup_pending (d : Drive) (x : Setup) : (s.withSetup d x).pending = s.pending := rfl
@[simp] theorem State.withSetup_drive (d : Drive) (x : Setup) (k : Drive) : (s.withSetup d x).drive k = s.drive k := rfl
@[simp] theorem State.withSetup_port (d : Drive) (x : Setup) (q : Port) : (s.withSetup d x).port q = s.port q := rfl
@[simp] theorem State.withSetup_sweep (d : Drive) (x : Setup) (k : Context) : (s.withSetup d x).sweep k = s.sweep k := rfl

@[simp] theorem State.withEnvelope_drives (x : Envelope) : (s.withEnvelope x).drives = s.drives := rfl
@[simp] theorem State.withEnvelope_envelope (x : Envelope) : (s.withEnvelope x).envelope = x := rfl
@[simp] theorem State.withEnvelope_arbiter (x : Envelope) : (s.withEnvelope x).arbiter = s.arbiter := rfl
@[simp] theorem State.withEnvelope_faults (x : Envelope) : (s.withEnvelope x).faults = s.faults := rfl
@[simp] theorem State.withEnvelope_sweeps (x : Envelope) : (s.withEnvelope x).sweeps = s.sweeps := rfl
@[simp] theorem State.withEnvelope_ports (x : Envelope) : (s.withEnvelope x).ports = s.ports := rfl
@[simp] theorem State.withEnvelope_weatherRx (x : Envelope) : (s.withEnvelope x).weatherRx = s.weatherRx := rfl
@[simp] theorem State.withEnvelope_turn (x : Envelope) : (s.withEnvelope x).turn = s.turn := rfl
@[simp] theorem State.withEnvelope_envSubs (x : Envelope) : (s.withEnvelope x).envSubs = s.envSubs := rfl
@[simp] theorem State.withEnvelope_settings (x : Envelope) : (s.withEnvelope x).settings = s.settings := rfl
@[simp] theorem State.withEnvelope_store (x : Envelope) : (s.withEnvelope x).store = s.store := rfl
@[simp] theorem State.withEnvelope_held (x : Envelope) : (s.withEnvelope x).held = s.held := rfl
@[simp] theorem State.withEnvelope_resetLine (x : Envelope) : (s.withEnvelope x).resetLine = s.resetLine := rfl
@[simp] theorem State.withEnvelope_freeCount (x : Envelope) : (s.withEnvelope x).freeCount = s.freeCount := rfl
@[simp] theorem State.withEnvelope_granted (x : Envelope) : (s.withEnvelope x).granted = s.granted := rfl
@[simp] theorem State.withEnvelope_pending (x : Envelope) : (s.withEnvelope x).pending = s.pending := rfl
@[simp] theorem State.withEnvelope_drive (x : Envelope) (k : Drive) : (s.withEnvelope x).drive k = s.drive k := rfl
@[simp] theorem State.withEnvelope_port (x : Envelope) (q : Port) : (s.withEnvelope x).port q = s.port q := rfl
@[simp] theorem State.withEnvelope_sweep (x : Envelope) (k : Context) : (s.withEnvelope x).sweep k = s.sweep k := rfl
@[simp] theorem State.withEnvelope_setup (x : Envelope) (k : Drive) : (s.withEnvelope x).setup k = s.setup k := rfl
@[simp] theorem State.withEnvelope_comp (x : Envelope) : (s.withEnvelope x).comp = s.comp := rfl

@[simp] theorem State.withArbiter_drives (x : Arbiter) : (s.withArbiter x).drives = s.drives := rfl
@[simp] theorem State.withArbiter_envelope (x : Arbiter) : (s.withArbiter x).envelope = s.envelope := rfl
@[simp] theorem State.withArbiter_arbiter (x : Arbiter) : (s.withArbiter x).arbiter = x := rfl
@[simp] theorem State.withArbiter_faults (x : Arbiter) : (s.withArbiter x).faults = s.faults := rfl
@[simp] theorem State.withArbiter_sweeps (x : Arbiter) : (s.withArbiter x).sweeps = s.sweeps := rfl
@[simp] theorem State.withArbiter_ports (x : Arbiter) : (s.withArbiter x).ports = s.ports := rfl
@[simp] theorem State.withArbiter_weatherRx (x : Arbiter) : (s.withArbiter x).weatherRx = s.weatherRx := rfl
@[simp] theorem State.withArbiter_turn (x : Arbiter) : (s.withArbiter x).turn = s.turn := rfl
@[simp] theorem State.withArbiter_envSubs (x : Arbiter) : (s.withArbiter x).envSubs = s.envSubs := rfl
@[simp] theorem State.withArbiter_settings (x : Arbiter) : (s.withArbiter x).settings = s.settings := rfl
@[simp] theorem State.withArbiter_store (x : Arbiter) : (s.withArbiter x).store = s.store := rfl
@[simp] theorem State.withArbiter_held (x : Arbiter) : (s.withArbiter x).held = s.held := rfl
@[simp] theorem State.withArbiter_resetLine (x : Arbiter) : (s.withArbiter x).resetLine = s.resetLine := rfl
@[simp] theorem State.withArbiter_freeCount (x : Arbiter) : (s.withArbiter x).freeCount = s.freeCount := rfl
@[simp] theorem State.withArbiter_granted (x : Arbiter) : (s.withArbiter x).granted = s.granted := rfl
@[simp] theorem State.withArbiter_pending (x : Arbiter) : (s.withArbiter x).pending = s.pending := rfl
@[simp] theorem State.withArbiter_drive (x : Arbiter) (k : Drive) : (s.withArbiter x).drive k = s.drive k := rfl
@[simp] theorem State.withArbiter_port (x : Arbiter) (q : Port) : (s.withArbiter x).port q = s.port q := rfl
@[simp] theorem State.withArbiter_sweep (x : Arbiter) (k : Context) : (s.withArbiter x).sweep k = s.sweep k := rfl
@[simp] theorem State.withArbiter_setup (x : Arbiter) (k : Drive) : (s.withArbiter x).setup k = s.setup k := rfl
@[simp] theorem State.withArbiter_comp (x : Arbiter) : (s.withArbiter x).comp = s.comp := rfl

@[simp] theorem State.withCompFaults_drives (x : CompartmentFaults) : (s.withCompFaults x).drives = s.drives := rfl
@[simp] theorem State.withCompFaults_envelope (x : CompartmentFaults) : (s.withCompFaults x).envelope = s.envelope := rfl
@[simp] theorem State.withCompFaults_arbiter (x : CompartmentFaults) : (s.withCompFaults x).arbiter = s.arbiter := rfl
@[simp] theorem State.withCompFaults_faults (x : CompartmentFaults) : (s.withCompFaults x).faults = x := rfl
@[simp] theorem State.withCompFaults_sweeps (x : CompartmentFaults) : (s.withCompFaults x).sweeps = s.sweeps := rfl
@[simp] theorem State.withCompFaults_ports (x : CompartmentFaults) : (s.withCompFaults x).ports = s.ports := rfl
@[simp] theorem State.withCompFaults_weatherRx (x : CompartmentFaults) : (s.withCompFaults x).weatherRx = s.weatherRx := rfl
@[simp] theorem State.withCompFaults_turn (x : CompartmentFaults) : (s.withCompFaults x).turn = s.turn := rfl
@[simp] theorem State.withCompFaults_envSubs (x : CompartmentFaults) : (s.withCompFaults x).envSubs = s.envSubs := rfl
@[simp] theorem State.withCompFaults_settings (x : CompartmentFaults) : (s.withCompFaults x).settings = s.settings := rfl
@[simp] theorem State.withCompFaults_store (x : CompartmentFaults) : (s.withCompFaults x).store = s.store := rfl
@[simp] theorem State.withCompFaults_held (x : CompartmentFaults) : (s.withCompFaults x).held = s.held := rfl
@[simp] theorem State.withCompFaults_resetLine (x : CompartmentFaults) : (s.withCompFaults x).resetLine = s.resetLine := rfl
@[simp] theorem State.withCompFaults_freeCount (x : CompartmentFaults) : (s.withCompFaults x).freeCount = s.freeCount := rfl
@[simp] theorem State.withCompFaults_granted (x : CompartmentFaults) : (s.withCompFaults x).granted = s.granted := rfl
@[simp] theorem State.withCompFaults_pending (x : CompartmentFaults) : (s.withCompFaults x).pending = s.pending := rfl
@[simp] theorem State.withCompFaults_drive (x : CompartmentFaults) (k : Drive) : (s.withCompFaults x).drive k = s.drive k := rfl
@[simp] theorem State.withCompFaults_port (x : CompartmentFaults) (q : Port) : (s.withCompFaults x).port q = s.port q := rfl
@[simp] theorem State.withCompFaults_sweep (x : CompartmentFaults) (k : Context) : (s.withCompFaults x).sweep k = s.sweep k := rfl
@[simp] theorem State.withCompFaults_setup (x : CompartmentFaults) (k : Drive) : (s.withCompFaults x).setup k = s.setup k := rfl
@[simp] theorem State.withCompFaults_comp (x : CompartmentFaults) : (s.withCompFaults x).comp = s.comp := rfl

@[simp] theorem State.withSweeps_drives (x : Sweeps) : (s.withSweeps x).drives = s.drives := rfl
@[simp] theorem State.withSweeps_envelope (x : Sweeps) : (s.withSweeps x).envelope = s.envelope := rfl
@[simp] theorem State.withSweeps_arbiter (x : Sweeps) : (s.withSweeps x).arbiter = s.arbiter := rfl
@[simp] theorem State.withSweeps_faults (x : Sweeps) : (s.withSweeps x).faults = s.faults := rfl
@[simp] theorem State.withSweeps_sweeps (x : Sweeps) : (s.withSweeps x).sweeps = x := rfl
@[simp] theorem State.withSweeps_ports (x : Sweeps) : (s.withSweeps x).ports = s.ports := rfl
@[simp] theorem State.withSweeps_weatherRx (x : Sweeps) : (s.withSweeps x).weatherRx = s.weatherRx := rfl
@[simp] theorem State.withSweeps_turn (x : Sweeps) : (s.withSweeps x).turn = s.turn := rfl
@[simp] theorem State.withSweeps_envSubs (x : Sweeps) : (s.withSweeps x).envSubs = s.envSubs := rfl
@[simp] theorem State.withSweeps_settings (x : Sweeps) : (s.withSweeps x).settings = s.settings := rfl
@[simp] theorem State.withSweeps_store (x : Sweeps) : (s.withSweeps x).store = s.store := rfl
@[simp] theorem State.withSweeps_held (x : Sweeps) : (s.withSweeps x).held = s.held := rfl
@[simp] theorem State.withSweeps_resetLine (x : Sweeps) : (s.withSweeps x).resetLine = s.resetLine := rfl
@[simp] theorem State.withSweeps_freeCount (x : Sweeps) : (s.withSweeps x).freeCount = s.freeCount := rfl
@[simp] theorem State.withSweeps_granted (x : Sweeps) : (s.withSweeps x).granted = s.granted := rfl
@[simp] theorem State.withSweeps_pending (x : Sweeps) : (s.withSweeps x).pending = s.pending := rfl
@[simp] theorem State.withSweeps_drive (x : Sweeps) (k : Drive) : (s.withSweeps x).drive k = s.drive k := rfl
@[simp] theorem State.withSweeps_port (x : Sweeps) (q : Port) : (s.withSweeps x).port q = s.port q := rfl
@[simp] theorem State.withSweeps_setup (x : Sweeps) (k : Drive) : (s.withSweeps x).setup k = s.setup k := rfl
@[simp] theorem State.withSweeps_comp (x : Sweeps) : (s.withSweeps x).comp = s.comp := rfl

@[simp] theorem State.withStore_drives (x : Store) : (s.withStore x).drives = s.drives := rfl
@[simp] theorem State.withStore_envelope (x : Store) : (s.withStore x).envelope = s.envelope := rfl
@[simp] theorem State.withStore_arbiter (x : Store) : (s.withStore x).arbiter = s.arbiter := rfl
@[simp] theorem State.withStore_faults (x : Store) : (s.withStore x).faults = s.faults := rfl
@[simp] theorem State.withStore_sweeps (x : Store) : (s.withStore x).sweeps = s.sweeps := rfl
@[simp] theorem State.withStore_ports (x : Store) : (s.withStore x).ports = s.ports := rfl
@[simp] theorem State.withStore_weatherRx (x : Store) : (s.withStore x).weatherRx = s.weatherRx := rfl
@[simp] theorem State.withStore_turn (x : Store) : (s.withStore x).turn = s.turn := rfl
@[simp] theorem State.withStore_envSubs (x : Store) : (s.withStore x).envSubs = s.envSubs := rfl
@[simp] theorem State.withStore_settings (x : Store) : (s.withStore x).settings = s.settings := rfl
@[simp] theorem State.withStore_store (x : Store) : (s.withStore x).store = x := rfl
@[simp] theorem State.withStore_held (x : Store) : (s.withStore x).held = s.held := rfl
@[simp] theorem State.withStore_resetLine (x : Store) : (s.withStore x).resetLine = s.resetLine := rfl
@[simp] theorem State.withStore_freeCount (x : Store) : (s.withStore x).freeCount = s.freeCount := rfl
@[simp] theorem State.withStore_granted (x : Store) : (s.withStore x).granted = s.granted := rfl
@[simp] theorem State.withStore_pending (x : Store) : (s.withStore x).pending = s.pending := rfl
@[simp] theorem State.withStore_drive (x : Store) (k : Drive) : (s.withStore x).drive k = s.drive k := rfl
@[simp] theorem State.withStore_port (x : Store) (q : Port) : (s.withStore x).port q = s.port q := rfl
@[simp] theorem State.withStore_sweep (x : Store) (k : Context) : (s.withStore x).sweep k = s.sweep k := rfl
@[simp] theorem State.withStore_setup (x : Store) (k : Drive) : (s.withStore x).setup k = s.setup k := rfl
@[simp] theorem State.withStore_comp (x : Store) : (s.withStore x).comp = s.comp := rfl

@[simp] theorem State.setPort_drives (p : Port) (x : MasterPort) : (s.setPort p x).drives = s.drives := rfl
@[simp] theorem State.setPort_envelope (p : Port) (x : MasterPort) : (s.setPort p x).envelope = s.envelope := rfl
@[simp] theorem State.setPort_arbiter (p : Port) (x : MasterPort) : (s.setPort p x).arbiter = s.arbiter := rfl
@[simp] theorem State.setPort_faults (p : Port) (x : MasterPort) : (s.setPort p x).faults = s.faults := rfl
@[simp] theorem State.setPort_sweeps (p : Port) (x : MasterPort) : (s.setPort p x).sweeps = s.sweeps := rfl
@[simp] theorem State.setPort_weatherRx (p : Port) (x : MasterPort) : (s.setPort p x).weatherRx = s.weatherRx := rfl
@[simp] theorem State.setPort_turn (p : Port) (x : MasterPort) : (s.setPort p x).turn = s.turn := rfl
@[simp] theorem State.setPort_envSubs (p : Port) (x : MasterPort) : (s.setPort p x).envSubs = s.envSubs := rfl
@[simp] theorem State.setPort_settings (p : Port) (x : MasterPort) : (s.setPort p x).settings = s.settings := rfl
@[simp] theorem State.setPort_store (p : Port) (x : MasterPort) : (s.setPort p x).store = s.store := rfl
@[simp] theorem State.setPort_held (p : Port) (x : MasterPort) : (s.setPort p x).held = s.held := rfl
@[simp] theorem State.setPort_resetLine (p : Port) (x : MasterPort) : (s.setPort p x).resetLine = s.resetLine := rfl
@[simp] theorem State.setPort_freeCount (p : Port) (x : MasterPort) : (s.setPort p x).freeCount = s.freeCount := rfl
@[simp] theorem State.setPort_granted (p : Port) (x : MasterPort) : (s.setPort p x).granted = s.granted := rfl
@[simp] theorem State.setPort_pending (p : Port) (x : MasterPort) : (s.setPort p x).pending = s.pending := rfl
@[simp] theorem State.setPort_drive (p : Port) (x : MasterPort) (k : Drive) : (s.setPort p x).drive k = s.drive k := rfl
@[simp] theorem State.setPort_sweep (p : Port) (x : MasterPort) (k : Context) : (s.setPort p x).sweep k = s.sweep k := rfl
@[simp] theorem State.setPort_setup (p : Port) (x : MasterPort) (k : Drive) : (s.setPort p x).setup k = s.setup k := rfl
@[simp] theorem State.setPort_comp (p : Port) (x : MasterPort) : (s.setPort p x).comp = s.comp := rfl

@[simp] theorem State.setSweep_drives (c : Context) (x : SweepCtx) : (s.setSweep c x).drives = s.drives := rfl
@[simp] theorem State.setSweep_envelope (c : Context) (x : SweepCtx) : (s.setSweep c x).envelope = s.envelope := rfl
@[simp] theorem State.setSweep_arbiter (c : Context) (x : SweepCtx) : (s.setSweep c x).arbiter = s.arbiter := rfl
@[simp] theorem State.setSweep_faults (c : Context) (x : SweepCtx) : (s.setSweep c x).faults = s.faults := rfl
@[simp] theorem State.setSweep_ports (c : Context) (x : SweepCtx) : (s.setSweep c x).ports = s.ports := rfl
@[simp] theorem State.setSweep_weatherRx (c : Context) (x : SweepCtx) : (s.setSweep c x).weatherRx = s.weatherRx := rfl
@[simp] theorem State.setSweep_turn (c : Context) (x : SweepCtx) : (s.setSweep c x).turn = s.turn := rfl
@[simp] theorem State.setSweep_envSubs (c : Context) (x : SweepCtx) : (s.setSweep c x).envSubs = s.envSubs := rfl
@[simp] theorem State.setSweep_settings (c : Context) (x : SweepCtx) : (s.setSweep c x).settings = s.settings := rfl
@[simp] theorem State.setSweep_store (c : Context) (x : SweepCtx) : (s.setSweep c x).store = s.store := rfl
@[simp] theorem State.setSweep_held (c : Context) (x : SweepCtx) : (s.setSweep c x).held = s.held := rfl
@[simp] theorem State.setSweep_resetLine (c : Context) (x : SweepCtx) : (s.setSweep c x).resetLine = s.resetLine := rfl
@[simp] theorem State.setSweep_freeCount (c : Context) (x : SweepCtx) : (s.setSweep c x).freeCount = s.freeCount := rfl
@[simp] theorem State.setSweep_granted (c : Context) (x : SweepCtx) : (s.setSweep c x).granted = s.granted := rfl
@[simp] theorem State.setSweep_pending (c : Context) (x : SweepCtx) : (s.setSweep c x).pending = s.pending := rfl
@[simp] theorem State.setSweep_drive (c : Context) (x : SweepCtx) (k : Drive) : (s.setSweep c x).drive k = s.drive k := rfl
@[simp] theorem State.setSweep_port (c : Context) (x : SweepCtx) (q : Port) : (s.setSweep c x).port q = s.port q := rfl
@[simp] theorem State.setSweep_setup (c : Context) (x : SweepCtx) (k : Drive) : (s.setSweep c x).setup k = s.setup k := rfl
@[simp] theorem State.setSweep_comp (c : Context) (x : SweepCtx) : (s.setSweep c x).comp = s.comp := rfl

/-! ### One drive, one port, one context -/

theorem State.setDrive_drive (d k : Drive) (r : DriveRec) :
    (s.setDrive d r).drive k = if k = d then r else s.drive k := by
  simp only [State.drive, State.setDrive, Fin.getElem_fin, Vector.getElem_set, Fin.ext_iff, eq_comm]

@[simp] theorem State.setDrive_drive_same (d : Drive) (r : DriveRec) : (s.setDrive d r).drive d = r := by
  simp [State.setDrive_drive]

@[simp] theorem State.setDrive_drive_ne {d k : Drive} (h : k ≠ d) (r : DriveRec) :
    (s.setDrive d r).drive k = s.drive k := by
  simp [State.setDrive_drive, h]

@[simp] theorem State.withMotion_drive_same (d : Drive) (x : Motion) :
    (s.withMotion d x).drive d = { s.drive d with motion := x } := by simp [State.withMotion]
@[simp] theorem State.withMotion_drive_ne {d k : Drive} (h : k ≠ d) (x : Motion) :
    (s.withMotion d x).drive k = s.drive k := by simp [State.withMotion, h]
@[simp] theorem State.withDemand_drive_same (d : Drive) (x : Demand) :
    (s.withDemand d x).drive d = { s.drive d with demand := x } := by simp [State.withDemand]
@[simp] theorem State.withDemand_drive_ne {d k : Drive} (h : k ≠ d) (x : Demand) :
    (s.withDemand d x).drive k = s.drive k := by simp [State.withDemand, h]
@[simp] theorem State.withFaults_drive_same (d : Drive) (x : DriveFaults) :
    (s.withFaults d x).drive d = { s.drive d with faults := x } := by simp [State.withFaults]
@[simp] theorem State.withFaults_drive_ne {d k : Drive} (h : k ≠ d) (x : DriveFaults) :
    (s.withFaults d x).drive k = s.drive k := by simp [State.withFaults, h]
@[simp] theorem State.withPins_drive_same (d : Drive) (x : Pins) :
    (s.withPins d x).drive d = { s.drive d with pins := x } := by simp [State.withPins]
@[simp] theorem State.withPins_drive_ne {d k : Drive} (h : k ≠ d) (x : Pins) :
    (s.withPins d x).drive k = s.drive k := by simp [State.withPins, h]
@[simp] theorem State.withBook_drive_same (d : Drive) (x : Book) :
    (s.withBook d x).drive d = { s.drive d with book := x } := by simp [State.withBook]
@[simp] theorem State.withBook_drive_ne {d k : Drive} (h : k ≠ d) (x : Book) :
    (s.withBook d x).drive k = s.drive k := by simp [State.withBook, h]
@[simp] theorem State.withSubs_drive_same (d : Drive) (x : PerPort Bool) :
    (s.withSubs d x).drive d = { s.drive d with subs := x } := by simp [State.withSubs]
@[simp] theorem State.withSubs_drive_ne {d k : Drive} (h : k ≠ d) (x : PerPort Bool) :
    (s.withSubs d x).drive k = s.drive k := by simp [State.withSubs, h]

theorem PerPort.get_set {α : Type} (v : PerPort α) (p q : Port) (x : α) :
    (v.set p x).get q = if q = p then x else v.get q := by
  cases p <;> cases q <;> rfl

@[simp] theorem PerPort.get_set_same {α : Type} (v : PerPort α) (p : Port) (x : α) : (v.set p x).get p = x := by
  cases p <;> rfl

@[simp] theorem PerPort.get_set_ne {α : Type} (v : PerPort α) {p q : Port} (h : q ≠ p) (x : α) :
    (v.set p x).get q = v.get q := by
  simp [PerPort.get_set, h]

theorem State.setPort_port (p q : Port) (x : MasterPort) :
    (s.setPort p x).port q = if q = p then x else s.port q := PerPort.get_set _ _ _ _

@[simp] theorem State.setPort_port_same (p : Port) (x : MasterPort) : (s.setPort p x).port p = x :=
  PerPort.get_set_same _ _ _

@[simp] theorem State.setPort_port_ne {p q : Port} (h : q ≠ p) (x : MasterPort) : (s.setPort p x).port q = s.port q :=
  PerPort.get_set_ne _ h _

@[simp] theorem State.setSweep_sweep_same (c : Context) (x : SweepCtx) : (s.setSweep c x).sweep c = x := by
  cases c <;> rfl

@[simp] theorem State.setSweep_sweep_other (c : Context) (x : SweepCtx) :
    (s.setSweep c x).sweep (otherContext c) = s.sweep (otherContext c) := by
  cases c <;> rfl

@[simp] theorem PerSide.get_set_same {α : Type} (v : PerSide α) (x : Side) (a : α) : (v.set x a).get x = a := by
  cases x <;> rfl

end Sys2Proof.Machine
end

