-- ==== Sys2Proof/Laws/Kept.lean ====
section
/-! SUPPORT. What the shared operations on drives can do, said once (`Kept`), with one lemma per operation: everything they leave
unchanged, and what they keep true. A prover cites these and unfolds no operation. -/

namespace Sys2Proof.Machine

/-- What an operation on the drives of `X`, which may change the demand table of the drives of `Y`, leaves as it was.
Beside the drives of `X` only drives with a queue entry change: a grant may reach them. -/
structure Kept (X Y : Drive → Prop) (s t : State) : Prop where
  settings : t.settings = s.settings
  store : t.store = s.store
  envelope : t.envelope = s.envelope
  sweeps : t.sweeps = s.sweeps
  weatherRx : t.weatherRx = s.weatherRx
  turn : t.turn = s.turn
  envSubs : t.envSubs = s.envSubs
  held : t.held = s.held
  resetLine : t.resetLine = s.resetLine
  pending : t.pending = s.pending
  restart : t.arbiter.restart = s.arbiter.restart
  faults : t.faults = { s.faults with summary := t.faults.summary }
  port : ∀ p, t.port p = { s.port p with notices := (t.port p).notices, fresh := (t.port p).fresh }
  nodup : ∀ p, (s.port p).notices.Nodup → (t.port p).notices.Nodup
  still : ∀ p x, x ∈ (s.port p).notices → x ∈ (t.port p).notices
  pins : ∀ d, (t.drive d).pins = (s.drive d).pins
  subs : ∀ d, (t.drive d).subs = (s.drive d).subs
  slots : s.SlotsOk → t.SlotsOk
  waiting : ∀ d, d ∈ t.waiting → d ∈ s.waiting ∨ X d
  others : ∀ d, ¬ X d → d ∉ s.waiting → t.drive d = s.drive d
  demand : ∀ d, ¬ Y d → (t.drive d).demand = (s.drive d).demand

variable {X Y : Drive → Prop} {s t u : State} {d : Drive}

theorem Kept.refl (X Y : Drive → Prop) (s : State) : Kept X Y s s := by
  constructor <;> first | (intros; rfl) | (intros; assumption) | skip
  intro d h; exact .inl h

theorem Kept.trans (h : Kept X Y s t) (k : Kept X Y t u) : Kept X Y s u where
  settings := k.settings.trans h.settings
  store := k.store.trans h.store
  envelope := k.envelope.trans h.envelope
  sweeps := k.sweeps.trans h.sweeps
  weatherRx := k.weatherRx.trans h.weatherRx
  turn := k.turn.trans h.turn
  envSubs := k.envSubs.trans h.envSubs
  held := k.held.trans h.held
  resetLine := k.resetLine.trans h.resetLine
  pending := k.pending.trans h.pending
  restart := k.restart.trans h.restart
  faults := by rw [k.faults, h.faults]
  port p := by rw [k.port p, h.port p]
  nodup p hp := k.nodup p (h.nodup p hp)
  still p x hx := k.still p x (h.still p x hx)
  pins d := (k.pins d).trans (h.pins d)
  subs d := (k.subs d).trans (h.subs d)
  slots hs := k.slots (h.slots hs)
  waiting d hd := (k.waiting d hd).elim (h.waiting d) .inr
  others d hx hw := (k.others d hx (fun hd => (h.waiting d hd).elim hw hx)).trans (h.others d hx hw)
  demand d hy := (k.demand d hy).trans (h.demand d hy)

/-- The demand table may be allowed to change at more drives, and more drives may be acted on. -/
theorem Kept.mono {X' Y' : Drive → Prop} (h : Kept X Y s t) (hX : ∀ d, X d → X' d) (hY : ∀ d, Y d → Y' d) :
    Kept X' Y' s t :=
  { h with
    waiting := fun d hd => (h.waiting d hd).imp_right (hX d)
    others := fun d hx hw => h.others d (fun k => hx (hX d k)) hw
    demand := fun d hy => h.demand d (fun k => hy (hY d k)) }

/-! ### Named updates -/

/-- One drive of `X` takes another record with the same demand table, inputs and subscribers. -/
theorem Kept.setDrive (h : Kept X Y s t) (hd : X d) (r : DriveRec) (h1 : r.demand = (t.drive d).demand)
    (h2 : r.pins = (t.drive d).pins) (h3 : r.subs = (t.drive d).subs) : Kept X Y s (t.setDrive d r) := by
  refine h.trans ?_
  constructor <;> first | rfl | (intros; rfl) | skip
  · exact fun _ hp => hp
  · exact fun _ _ hx => hx
  · intro k; rw [State.setDrive_drive]; split
    · next e => rw [e, h2]
    · rfl
  · intro k; rw [State.setDrive_drive]; split
    · next e => rw [e, h3]
    · rfl
  · exact fun hs => hs
  · exact fun k hk => .inl hk
  · intro k hk _; rw [State.setDrive_drive]; split
    · next e => exact absurd (e ▸ hd) hk
    · rfl
  · intro k _; rw [State.setDrive_drive]; split
    · next e => rw [e, h1]
    · rfl

theorem Kept.withMotion (h : Kept X Y s t) (hd : X d) (m : Motion) : Kept X Y s (t.withMotion d m) :=
  h.setDrive hd _ rfl rfl rfl

theorem Kept.withFaults (h : Kept X Y s t) (hd : X d) (f : DriveFaults) : Kept X Y s (t.withFaults d f) :=
  h.setDrive hd _ rfl rfl rfl

theorem Kept.withBook (h : Kept X Y s t) (hd : X d) (b : Book) : Kept X Y s (t.withBook d b) :=
  h.setDrive hd _ rfl rfl rfl

/-- One drive of both `X` and `Y` takes another demand table entry. -/
theorem Kept.withDemand (h : Kept X Y s t) (hd : X d) (hy : Y d) (m : Demand) : Kept X Y s (t.withDemand d m) := by
  refine h.trans ?_
  constructor <;> first | rfl | (intros; rfl) | skip
  · exact fun _ hp => hp
  · exact fun _ _ hx => hx
  · intro k; by_cases e : k = d
    · rw [e, State.withDemand_drive_same]
    · rw [State.withDemand_drive_ne _ e]
  · intro k; by_cases e : k = d
    · rw [e, State.withDemand_drive_same]
    · rw [State.withDemand_drive_ne _ e]
  · exact fun hs => hs
  · exact fun k hk => .inl hk
  · intro k hk _; exact State.withDemand_drive_ne _ (fun e : k = d => hk (e ▸ hd)) _
  · intro k hk; rw [State.withDemand_drive_ne _ (fun e : k = d => hk (e ▸ hy))]

/-- The start arbiter changes with its slots within the limit, its restart hold as it was, and no new drive waiting
but those of `X`. -/
theorem Kept.withArbiter (h : Kept X Y s t) (a : Arbiter) (hr : a.restart = t.arbiter.restart)
    (hs : t.SlotsOk → a.holders.length ≤ t.comp.slotLimit)
    (hw : ∀ k, k ∈ a.queue.map Entry.drive → k ∈ t.waiting ∨ X k) : Kept X Y s (t.withArbiter a) := by
  refine h.trans ?_
  constructor <;> first | rfl | (intros; rfl) | skip
  · exact hr
  · exact fun _ hp => hp
  · exact fun _ _ hx => hx
  · exact hs
  · exact hw

/-- The summary of the fault table changes. -/
theorem Kept.withSummary (h : Kept X Y s t) (m : Summary) :
    Kept X Y s (t.withCompFaults { t.faults with summary := m }) := by
  refine h.trans ?_
  constructor <;> first | rfl | (intros; rfl) | skip
  · exact fun _ hp => hp
  · exact fun _ _ hx => hx
  · exact fun hs => hs
  · exact fun k hk => .inl hk

/-- The model's own counters change. -/
theorem Kept.counters (h : Kept X Y s t) (n : Nat) (b : Bool) : Kept X Y s { t with freeCount := n, granted := b } := by
  refine h.trans ?_
  constructor <;> first | rfl | (intros; rfl) | skip
  · exact fun _ hp => hp
  · exact fun _ _ hx => hx
  · exact fun hs => hs
  · exact fun k hk => .inl hk

theorem Kept.setGranted (h : Kept X Y s t) (b : Bool) : Kept X Y s { t with granted := b } := h.counters t.freeCount b

theorem Kept.setFree (h : Kept X Y s t) (n : Nat) : Kept X Y s { t with freeCount := n } := h.counters n t.granted

/-! ### Marking -/

theorem mem_insertAt {α : Type} {i : Nat} {x y : α} {l : List α} : y ∈ insertAt i x l ↔ y = x ∨ y ∈ l := by
  have h : y ∈ l ↔ y ∈ l.take i ∨ y ∈ l.drop i := by
    conv => lhs; rw [← List.take_append_drop i l]
    exact List.mem_append
  simp only [insertAt, List.mem_append, List.mem_cons, h]
  exact or_left_comm

theorem nodup_insertAt {α : Type} {i : Nat} {x : α} {l : List α} (h : l.Nodup) (hx : x ∉ l) :
    (insertAt i x l).Nodup := by
  have p : (insertAt i x l).Perm (x :: l) := by
    unfold insertAt
    exact List.perm_middle.trans (.cons x (.of_eq (List.take_append_drop i l)))
  exact p.nodup_iff.2 (List.nodup_cons.2 ⟨hx, h⟩)

/-- A marked queue holds its subjects still, the marked one among them, and none twice (09 R195). -/
theorem MasterPort.marked_spec (q : MasterPort) (k : Nat) (x : Subject) :
    (q.marked k x = { q with notices := (q.marked k x).notices, fresh := (q.marked k x).fresh }) ∧
    (∀ y, y ∈ (q.marked k x).notices ↔ y = x ∨ y ∈ q.notices) ∧
    (q.notices.Nodup → (q.marked k x).notices.Nodup) := by
  unfold MasterPort.marked
  split
  · next h => exact ⟨rfl, fun y => ⟨.inr, fun hy => hy.elim (fun e => e ▸ h) id⟩, id⟩
  · next h =>
    split
    · refine ⟨rfl, fun y => ?_, fun hn => ?_⟩
      · simp [or_comm]
      · exact List.nodup_append.2 ⟨hn, by simp, by rintro a ha b hb rfl; simp at hb; exact h (hb ▸ ha)⟩
    · exact ⟨rfl, fun y => mem_insertAt, fun hn => nodup_insertAt hn h⟩

theorem Kept.mark (h : Kept X Y s t) (p : Port) (x : Subject) : Kept X Y s (t.mark p x) := by
  refine h.trans ?_
  obtain ⟨h1, h2, h3⟩ := MasterPort.marked_spec (t.port p) t.freeCount x
  have e : ∀ q, (t.mark p x).port q = if q = p then (t.port p).marked t.freeCount x else t.port q :=
    fun q => State.setPort_port t p q _
  constructor <;> first | rfl | (intros; rfl) | skip
  · intro q; rw [e]; split
    · next hq => rw [hq]; exact h1
    · rfl
  · intro q hq; rw [e]; split
    · next hp => exact h3 (hp ▸ hq)
    · exact hq
  · intro q y hy; rw [e]; split
    · next hp => exact (h2 y).2 (.inr (hp ▸ hy))
    · exact hy
  · exact fun hs => hs
  · exact fun k hk => .inl hk

theorem Kept.markFor (h : Kept X Y s t) (v : PerPort Bool) (x : Subject) : Kept X Y s (t.markFor v x) := by
  have one : ∀ (w : State) (p : Port), Kept X Y s w → Kept X Y s (if v.get p then w.mark p x else w) := by
    intro w p hw; split
    · exact hw.mark p x
    · exact hw
  exact one _ _ (one _ _ (one _ _ h))

theorem Kept.markDrive (h : Kept X Y s t) (d : Drive) : Kept X Y s (t.markDrive d) := h.markFor _ _

theorem Kept.markEnvelope (h : Kept X Y s t) : Kept X Y s t.markEnvelope := h.markFor _ _

theorem Kept.markSummary (h : Kept X Y s t) : Kept X Y s t.markSummary := h.markFor _ _

/-- An if is kept when both its branches are. -/
theorem Kept.ite {c : Prop} [Decidable c] {a b : State} (ha : c → Kept X Y s a) (hb : ¬ c → Kept X Y s b) :
    Kept X Y s (if c then a else b) := by
  split
  · next h => exact ha h
  · next h => exact hb h

/-! ### The fault table (Flags.lean) -/

theorem Kept.refreshSummary (h : Kept X Y s t) : Kept X Y s t.refreshSummary := by
  unfold State.refreshSummary
  exact .ite (fun _ => h) (fun _ => (h.withSummary _).markSummary)

theorem Kept.report (h : Kept X Y s t) (hd : X d) (k : DriveFault) : Kept X Y s (t.report d k) := by
  unfold State.report
  exact .ite (fun _ => h.refreshSummary) (fun _ => ((h.withFaults hd _).markDrive d).refreshSummary)

theorem Kept.countTrip (h : Kept X Y s t) (hd : X d) : Kept X Y s (t.countTrip d) := h.withFaults hd _

theorem Kept.endBothHeld (h : Kept X Y s t) (hd : X d) : Kept X Y s (t.endBothHeld d) := by
  unfold State.endBothHeld
  exact .ite (fun _ => h.withFaults hd _) (fun _ => (h.withFaults hd _).markDrive d)

theorem Kept.ackDrive (h : Kept X Y s t) (hd : X d) : Kept X Y s (t.ackDrive d) := by
  unfold State.ackDrive
  exact .ite (fun _ => h.withFaults hd _) (fun _ => (h.withFaults hd _).markDrive d)

/-! ### The position book (Book.lean) -/

theorem Kept.setBook (h : Kept X Y s t) (hd : X d) (b : Book) : Kept X Y s (t.setBook d b) := by
  unfold State.setBook
  refine .ite (fun _ => h.setDrive hd _ rfl rfl rfl) (fun _ => Kept.markDrive ?_ d)
  exact h.setDrive hd _ rfl rfl rfl

theorem Kept.growTravel (h : Kept X Y s t) (hd : X d) (n : Nat) : Kept X Y s (t.growTravel d n) := h.setBook hd _

theorem Kept.setKnowledge (h : Kept X Y s t) (hd : X d) (k : Knowledge) : Kept X Y s (t.setKnowledge d k) :=
  h.setBook hd _

theorem Kept.lowerKnowledge (h : Kept X Y s t) (hd : X d) : Kept X Y s (t.lowerKnowledge d) := by
  unfold State.lowerKnowledge
  exact .ite (fun _ => h.setKnowledge hd _) (fun _ => h)

theorem Kept.reference (h : Kept X Y s t) (hd : X d) (e : End) : Kept X Y s (t.reference d e) :=
  (h.setBook hd _).withMotion hd _

theorem Kept.overrunOutcome (h : Kept X Y s t) (hd : X d) (e : End) : Kept X Y s (t.overrunOutcome d e) := by
  unfold State.overrunOutcome
  exact .ite (fun _ => ((h.setBook hd _).withMotion hd _).report hd _) (fun _ => h.reference hd e)

theorem Kept.closeCoast (h : Kept X Y s t) (hd : X d) : Kept X Y s (t.closeCoast d) := by
  unfold State.closeCoast
  dsimp only
  split
  · exact h
  · exact (h.withMotion hd _).growTravel hd _

/-! ### Runs and trains (Runs.lean) -/

theorem Kept.setMotionState (h : Kept X Y s t) (hd : X d) (m : MotionState) : Kept X Y s (t.setMotionState d m) := by
  unfold State.setMotionState
  exact .ite (fun _ => h) (fun _ => (h.withMotion hd _).markDrive d)

theorem Kept.setDirection (h : Kept X Y s t) (hd : X d) (dir : Direction) : Kept X Y s (t.setDirection d dir) := by
  unfold State.setDirection
  exact .ite (fun _ => h) (fun _ => (h.withMotion hd _).markDrive d)

theorem Kept.releaseSlot (h : Kept X Y s t) (d : Drive) : Kept X Y s (t.releaseSlot d) :=
  h.withArbiter _ rfl (fun hs => (List.length_filter_le _ _).trans hs) (fun _ hk => .inl hk)

theorem Kept.clearRun (h : Kept X Y s t) (hd : X d) : Kept X Y s (t.clearRun d) := by
  unfold State.clearRun
  have h1 := (h.withMotion hd { (t.drive d).motion with
    run := none, train := none, pulseGap := none,
    coast := match (t.drive d).motion.run with
      | some (.screen _) => some { left := Config.coastWindow, direction := (t.drive d).motion.direction }
      | _ => (t.drive d).motion.coast }).releaseSlot d
  exact .ite (fun _ => h1.markDrive d) (fun _ => h1)

theorem Kept.dropOutput (h : Kept X Y s t) (hd : X d) : Kept X Y s (t.dropOutput d) := by
  unfold State.dropOutput
  refine Kept.clearRun (.ite (fun _ => ?_) (fun _ => h)) hd
  dsimp only
  split
  · exact h.setBook hd _
  · exact h
  · exact h.setBook hd _
  · exact h

theorem Kept.arriveAt (h : Kept X Y s t) (hd : X d) (aim : Nat) : Kept X Y s (t.arriveAt d aim) := by
  unfold State.arriveAt
  refine Kept.clearRun ?_ hd
  dsimp only
  split
  · exact h.setBook hd _
  · exact h
  · exact h.setBook hd _
  · exact h

theorem Kept.completeHoming (h : Kept X Y s t) (hd : X d) : Kept X Y s (t.completeHoming d) := by
  unfold State.completeHoming
  exact .ite (fun _ => h.withMotion hd _) (fun _ => h)

theorem Kept.normalStop (h : Kept X Y s t) (hd : X d) : Kept X Y s (t.normalStop d) :=
  (h.withMotion hd _).setMotionState hd _

theorem Kept.completeRun (h : Kept X Y s t) (hd : X d) (aim : Nat) : Kept X Y s (t.completeRun d aim) := by
  unfold State.completeRun
  dsimp only
  split
  · exact (h.arriveAt hd _).normalStop hd
  · exact (((h.arriveAt hd _).completeHoming hd).overrunOutcome hd _).normalStop hd

theorem Kept.becomeFaulted (h : Kept X Y s t) (hd : X d) (c : DriveFault) : Kept X Y s (t.becomeFaulted d c) :=
  ((h.withMotion hd _).setMotionState hd _).report hd _

theorem Kept.tripped (h : Kept X Y s t) (hd : X d) (k : DriveFault) : Kept X Y s (t.tripped d k) := by
  unfold State.tripped
  have h2 : Kept X Y s (if (t.setup d).kind = .screen then
      (t.dropOutput d).withMotion d { ((t.dropOutput d).drive d).motion with
        coast := some { left := Config.coastWindow, direction := ((t.dropOutput d).drive d).motion.direction } }
      else (t.dropOutput d).lowerKnowledge d) :=
    .ite (fun _ => (h.dropOutput hd).withMotion hd _) (fun _ => (h.dropOutput hd).lowerKnowledge hd)
  have h3 := fun m => ((h2.withMotion hd m).countTrip hd).report hd k
  exact .ite (fun _ => (h3 _).becomeFaulted hd _) (fun _ => ((h3 _).withMotion hd _).setMotionState hd _)

theorem Kept.startPulse (h : Kept X Y s t) (hd : X d) : Kept X Y s (t.startPulse d) := by
  unfold State.startPulse
  dsimp only
  split
  · exact h
  · exact .ite (fun _ => h.tripped hd _) (fun _ => h.withMotion hd _)

theorem Kept.startTrain (h : Kept X Y s t) (hd : X d) : Kept X Y s (t.startTrain d) :=
  (((h.setDirection hd _).withMotion hd _).markDrive d).startPulse hd

theorem Kept.onGrant (h : Kept X Y s t) (hd : X d) : Kept X Y s (t.onGrant d) := by
  unfold State.onGrant
  have h2 := fun m => (h.closeCoast hd).withMotion hd m
  exact .ite (fun _ => (h2 _).tripped hd _)
    (fun _ => (((h2 _).setDirection hd _).withMotion hd _).setMotionState hd _)

/-! ### The start arbiter (Arbiter.lean) -/

/-- A queue with an entry put at its place holds the entry and what it held. -/
theorem mem_insertEntry {e x : Entry} {l : List Entry} : x ∈ insertEntry e l ↔ x = e ∨ x ∈ l := by
  induction l with
  | nil => simp [insertEntry]
  | cons y rest ih =>
    simp only [insertEntry]
    split
    · simp
    · simp only [List.mem_cons, ih]; exact or_left_comm

/-- A grant reaches a drive that waits, and takes one slot only below the limit (05 R118). -/
theorem Kept.grantHead (hs : s.arbiter.holders.length < s.comp.slotLimit) : Kept X Y s s.grantHead := by
  unfold State.grantHead
  split
  · exact .refl _ _ _
  · next e rest hq =>
    have h1 : Kept (fun k => k = e.drive) Y s _ :=
      Kept.onGrant (d := e.drive) (Kept.setGranted (Kept.withArbiter (.refl _ _ s)
        { s.arbiter with queue := rest, holders := s.arbiter.holders ++ [e.drive],
                         spacing := if s.comp.startSpacing = 0 then none else some s.comp.startSpacing }
        rfl (fun _ => by simpa using hs) (fun k hk => .inl (by
          simp only [State.waiting, hq, List.map_cons, List.mem_cons]; exact .inr hk))) true) rfl
    have hm : e.drive ∈ s.waiting := by simp [State.waiting, hq]
    exact { h1 with
      waiting := fun k hk => .inl ((h1.waiting k hk).elim id (fun e' => e' ▸ hm))
      others := fun k _ hw => h1.others k (fun e' => hw (e' ▸ hm)) hw }

theorem Kept.grantIfAble (h : Kept X Y s t) : Kept X Y s t.grantIfAble := by
  unfold State.grantIfAble
  refine .ite (fun hc => h.trans (Kept.grantHead ?_)) (fun _ => h)
  simp only [State.canGrant, Bool.and_eq_true, decide_eq_true_eq] at hc
  exact hc.1.1.1.2

@[simp] theorem State.grantIf_true (s : State) : s.grantIf true = s.grantIfAble := rfl
@[simp] theorem State.grantIf_false (s : State) : s.grantIf false = s := rfl

theorem Kept.grantIf (h : Kept X Y s t) (event : Bool) : Kept X Y s (t.grantIf event) :=
  .ite (fun _ => h.grantIfAble) (fun _ => h)

theorem Kept.place (h : Kept X Y s t) (hd : X d) (dir : Direction) : Kept X Y s (t.place d dir) := by
  refine h.withArbiter _ rfl id (fun k hk => ?_)
  obtain ⟨x, hx, rfl⟩ := List.mem_map.1 hk
  rcases mem_insertEntry.1 hx with rfl | hx
  · exact .inr hd
  · exact .inl (List.mem_map_of_mem hx)

theorem Kept.withdraw (h : Kept X Y s t) (d : Drive) : Kept X Y s (t.withdraw d) := by
  refine h.withArbiter _ rfl id (fun k hk => .inl ?_)
  obtain ⟨x, hx, rfl⟩ := List.mem_map.1 hk
  exact List.mem_map_of_mem (List.mem_filter.1 hx).1

/-- A drive that neither holds a slot nor waits leaves the arbiter nothing to grant by its going (05 R117, R120). -/
theorem State.yields_eq_false (h : d ∉ s.arbiter.holders) (hw : d ∉ s.waiting) : s.yields d = false := by
  have hq : s.arbiter.queue.head?.map Entry.drive ≠ some d := by
    cases hc : s.arbiter.queue with
    | nil => simp
    | cons e rest => simp_all [State.waiting]; exact fun he => hw.1 he.symm
  simp [State.yields, h, hq]

/-- A raise does nothing for a drive that does not wait (05 R116). -/
theorem State.raise_of_not_waiting (h : d ∉ s.waiting) : s.raise d = s := by
  have hn : s.arbiter.queue.find? (fun e => decide (e.drive = d) && !e.protective &&
      protectiveFor (s.drive d) e.direction) = none := by
    refine List.find?_eq_none.2 (fun e he hp => h ?_)
    simp only [Bool.and_eq_true, decide_eq_true_eq] at hp
    exact hp.1.1 ▸ List.mem_map_of_mem he
  simp only [State.raise, hn]

theorem Kept.raise (h : Kept X Y s t) (d : Drive) : Kept X Y s (t.raise d) := by
  unfold State.raise
  dsimp only
  split
  · exact h
  · next e he =>
    refine Kept.grantIfAble (h.withArbiter _ rfl id (fun k hk => .inl ?_))
    obtain ⟨x, hx, rfl⟩ := List.mem_map.1 hk
    rcases mem_insertEntry.1 hx with rfl | hx
    · exact List.mem_map.2 ⟨e, List.mem_of_find?_eq_some he, rfl⟩
    · exact List.mem_map_of_mem (List.mem_filter.1 hx).1

/-! ### The drive controller (Controller.lean) -/

theorem Kept.decideMotion (h : Kept X Y s t) (hd : X d) : Kept X Y s (t.decideMotion d) := by
  unfold State.decideMotion
  refine .ite (fun _ => .ite (fun _ => .ite (fun _ => h) (fun _ => h.startTrain hd)) (fun _ => ?_)) (fun _ => h)
  exact ((((h.setDirection hd _).withMotion hd _).setMotionState hd _).place hd _).grantIfAble

theorem Kept.reevaluate (h : Kept X Y s t) (hd : X d) : Kept X Y s (t.reevaluate d) := by
  unfold State.reevaluate
  refine .ite (fun _ => ?_) (fun _ => .ite (fun _ => ?_) (fun _ => ?_))
  · exact (((h.withdraw d).withMotion hd _).setMotionState hd _).grantIf _
  · exact (h.withMotion hd _).raise d
  · exact (((((h.withdraw d).grantIf _).setDirection hd _).withMotion hd _).place hd _).grantIfAble

theorem Kept.bookChanged (h : Kept X Y s t) (hd : X d) : Kept X Y s (t.bookChanged d) := by
  unfold State.bookChanged
  split
  · exact h.decideMotion hd
  · exact h.reevaluate hd
  all_goals exact h

theorem Kept.reverse (h : Kept X Y s t) (hd : X d) (n : Nat) : Kept X Y s (t.reverse d n) :=
  (((h.dropOutput hd).withMotion hd _).setMotionState hd _).grantIf _

theorem Kept.stopHere (h : Kept X Y s t) (hd : X d) : Kept X Y s (t.stopHere d) :=
  ((h.dropOutput hd).normalStop hd).grantIf _

theorem Kept.replan (h : Kept X Y s t) (hd : X d) (a : Nat) : Kept X Y s (t.replan d a) := by
  unfold State.replan
  dsimp only
  split
  · exact h.withMotion hd _
  · exact h.withMotion hd _
  · exact h

theorem Kept.retargetRun (h : Kept X Y s t) (hd : X d) (r : Run) : Kept X Y s (t.retargetRun d r) := by
  unfold State.retargetRun
  exact .ite (fun _ => h) (fun _ => .ite (fun _ => h.replan hd _) (fun _ => .ite (fun _ => h.stopHere hd)
    (fun _ => .ite (fun _ => h.replan hd _) (fun _ => h.reverse hd _))))

theorem Kept.retargetTrain (h : Kept X Y s t) (hd : X d) (r : Train) : Kept X Y s (t.retargetTrain d r) := by
  unfold State.retargetTrain
  exact .ite (fun _ => h) (fun _ => .ite (fun _ => h.withMotion hd _) (fun _ => .ite (fun _ => h.stopHere hd)
    (fun _ => h.reverse hd _)))

theorem Kept.onTarget (h : Kept X Y s t) (hd : X d) : Kept X Y s (t.onTarget d) := by
  unfold State.onTarget
  dsimp only
  split
  · exact h.decideMotion hd
  · exact h.reevaluate hd
  · refine .ite (fun _ => h) (fun _ => ?_)
    split
    · exact h.retargetRun hd _
    · exact h.retargetTrain hd _
    · exact h
  · refine .ite (fun _ => h) (fun _ => ?_)
    split
    · exact h.retargetRun hd _
    · exact h.retargetTrain hd _
    · exact h
  all_goals exact h

theorem Kept.onLockBegin (h : Kept X Y s t) (hd : X d) : Kept X Y s (t.onLockBegin d) := by
  unfold State.onLockBegin
  have h0 := fun m => h.withMotion hd m
  split
  · exact (h0 _).setMotionState hd _
  · exact ((((h0 _).withdraw d).withMotion hd _).setMotionState hd _).grantIf _
  · exact ((((h0 _).dropOutput hd).withMotion hd _).setMotionState hd _).grantIf _
  · exact ((((h0 _).dropOutput hd).withMotion hd _).setMotionState hd _).grantIf _
  · exact ((h0 _).withMotion hd _).setMotionState hd _
  all_goals exact h0 _

theorem Kept.onLockEnd (h : Kept X Y s t) (hd : X d) : Kept X Y s (t.onLockEnd d) := by
  unfold State.onLockEnd
  exact .ite (fun _ => (h.setMotionState hd _).decideMotion hd) (fun _ => h)

theorem Kept.settleStopped (h : Kept X Y s t) (hd : X d) : Kept X Y s (t.settleStopped d) := by
  unfold State.settleStopped
  exact .ite (fun _ => h.onLockBegin hd) (fun _ => h.decideMotion hd)

theorem Kept.homeDrive (h : Kept X Y s t) (hd : X d) : Kept X Y s (t.homeDrive d) := by
  unfold State.homeDrive
  have h1 := fun m => h.withMotion hd m
  have run : ∀ (w : State), Kept X Y s w → Kept X Y s
      (match (w.drive d).motion.run, (w.drive d).motion.train, (w.drive d).motion.direction with
      | some run, _, .closing => w.convertRun d run
      | some _, _, .opening => w.reverse d (w.setup d).reversalPause
      | none, some t, .closing => w.convertTrain d t
      | none, some t, .opening => w.reverse d (reversalLeft (w.setup d) (w.drive d).motion t)
      | none, none, _ => w) := by
    intro w hw
    split
    · exact hw.withMotion hd _
    · exact hw.reverse hd _
    · exact hw.withMotion hd _
    · exact hw.reverse hd _
    · exact hw
  dsimp only
  split
  · exact (h1 _).decideMotion hd
  · exact (h1 _).reevaluate hd
  · exact .ite (fun _ => h1 _) (fun _ => run _ (h1 _))
  · exact .ite (fun _ => h1 _) (fun _ => run _ (h1 _))
  all_goals exact h1 _

theorem Kept.bothEnds (h : Kept X Y s t) (hd : X d) : Kept X Y s (t.bothEnds d) := by
  unfold State.bothEnds
  have h1 : Kept X Y s (match (t.drive d).motion.state with
      | .running | .pausing => t.dropOutput d
      | .queued => t.withdraw d
      | .locked => t.withMotion d { (t.drive d).motion with homeMarker := false }
      | .stopped | .retryWait | .faulted | .absent => t) := by
    split
    · exact h.dropOutput hd
    · exact h.dropOutput hd
    · exact h.withdraw d
    · exact h.withMotion hd _
    all_goals exact h
  have h5 := fun m f => (((h1.setKnowledge hd .unknown).withMotion hd m).withFaults hd f).becomeFaulted hd .bothEnds
  exact (Kept.ite (fun _ => h5 _ _) (fun _ => (h5 _ _).markDrive d)).grantIf _

theorem Kept.wrongEnd (h : Kept X Y s t) (hd : X d) : Kept X Y s (t.wrongEnd d) :=
  ((((h.dropOutput hd).setKnowledge hd _).withMotion hd _).becomeFaulted hd _).grantIf _

theorem Kept.stopAtSwitch (h : Kept X Y s t) (hd : X d) (e : End) : Kept X Y s (t.stopAtSwitch d e) := by
  unfold State.stopAtSwitch
  have h1 := (h.clearRun hd).reference hd e
  exact (Kept.normalStop (.ite (fun _ => h1.completeHoming hd) (fun _ => h1)) hd).grantIf _

theorem Kept.referenceAtRest (h : Kept X Y s t) (hd : X d) (e : End) : Kept X Y s (t.referenceAtRest d e) := by
  unfold State.referenceAtRest
  have h1 := h.reference hd e
  refine Kept.bookChanged ?_ hd
  split
  all_goals first
    | exact h1
    | exact .ite (fun _ => h1.withMotion hd _) (fun _ => h1)

theorem Kept.switchTurnedOn (h : Kept X Y s t) (hd : X d) (e : End) : Kept X Y s (t.switchTurnedOn d e) := by
  unfold State.switchTurnedOn
  exact .ite (fun _ => h.bothEnds hd) (fun _ => .ite (fun _ => .ite (fun _ => h.stopAtSwitch hd e)
    (fun _ => h.wrongEnd hd)) (fun _ => .ite (fun _ => h.stopAtSwitch hd e) (fun _ => h.referenceAtRest hd e)))

theorem Kept.switchTurnedOff (h : Kept X Y s t) (hd : X d) (e : End) : Kept X Y s (t.switchTurnedOff d e) := by
  unfold State.switchTurnedOff
  have h1 : Kept X Y s (if (t.drive d).faults.bothHeld then t.endBothHeld d else t) :=
    .ite (fun _ => h.endBothHeld hd) (fun _ => h)
  exact .ite (fun _ => (h1.setKnowledge hd _).bookChanged hd) (fun _ => h1)

theorem Kept.reachProgress (h : Kept X Y s t) (hd : X d) : Kept X Y s (t.reachProgress d) := by
  unfold State.reachProgress
  dsimp only
  split
  · exact (h.withMotion hd _).markDrive d
  · exact h

theorem Kept.runPulse (h : Kept X Y s t) (hd : X d) (p : ScreenPlan) : Kept X Y s (t.runPulse d p) := by
  unfold State.runPulse
  have h3 := fun m => ((h.setBook hd ((t.drive d).book.pulsed (t.setup d) (t.drive d).motion.direction)).withMotion hd
    m).reachProgress hd
  exact .ite (fun _ => ((h3 _).completeRun hd _).grantIf _) (fun _ => h3 _)

theorem Kept.coastPulse (h : Kept X Y s t) (hd : X d) (c : Coast) : Kept X Y s (t.coastPulse d c) := by
  unfold State.coastPulse
  exact .ite (fun _ => h) (fun _ => (h.setBook hd _).bookChanged hd)

theorem Kept.strayPulse (h : Kept X Y s t) (hd : X d) : Kept X Y s (t.strayPulse d) := by
  unfold State.strayPulse
  exact .ite (fun _ => (h.setKnowledge hd _).bookChanged hd) (fun _ => h)

/-! ### The demand table (Demand.lean) -/

theorem Kept.displace (h : Kept X Y s t) (hd : X d) (hy : Y d) (src : Option Source) :
    Kept X Y s (t.displace d src) := by
  unfold State.displace
  split
  · exact (h.withDemand hd hy _).mark _ _
  · exact h

theorem Kept.handOn (h : Kept X Y s t) (hd : X d) (old new : Demand) : Kept X Y s (t.handOn d old new) := by
  unfold State.handOn
  exact .ite (fun _ => h.onLockBegin hd) (fun _ => .ite (fun _ => h.onLockEnd hd)
    (fun _ => .ite (fun _ => h.onTarget hd) (fun _ => h)))

theorem Kept.resolve (h : Kept X Y s t) (hd : X d) (hy : Y d) : Kept X Y s (t.resolve d) := by
  unfold State.resolve
  have h1 := fun m src => (h.withDemand hd hy m).displace hd hy src
  exact (Kept.handOn (.ite (fun _ => h1 _ _) (fun _ => (h1 _ _).markDrive d)) hd _ _).raise d

theorem Kept.placeDemand (h : Kept X Y s t) (hd : X d) (hy : Y d) (src : TimedSource) (v : Held) :
    Kept X Y s (t.placeDemand d src v) := by
  cases src <;> exact (h.withDemand hd hy _).resolve hd hy

theorem Kept.removeDemand (h : Kept X Y s t) (hd : X d) (hy : Y d) (src : TimedSource) :
    Kept X Y s (t.removeDemand d src) := by
  unfold State.removeDemand
  refine .ite (fun _ => h) (fun _ => ?_)
  cases src <;> exact (h.withDemand hd hy _).resolve hd hy

theorem Kept.placeCap (h : Kept X Y s t) (hd : X d) (hy : Y d) (v : Held) : Kept X Y s (t.placeCap d v) :=
  (h.withDemand hd hy _).resolve hd hy

theorem Kept.removeCap (h : Kept X Y s t) (hd : X d) (hy : Y d) : Kept X Y s (t.removeCap d) := by
  unfold State.removeCap
  exact .ite (fun _ => h) (fun _ => (h.withDemand hd hy _).resolve hd hy)

theorem Kept.takeBounds (h : Kept X Y s t) (hd : X d) (hy : Y d) (lo hi : Nat) :
    Kept X Y s (t.takeBounds d lo hi) :=
  (h.withDemand hd hy _).resolve hd hy

theorem Kept.stepDemand (h : Kept X Y s t) (hd : X d) (hy : Y d) (p : Port) (v : Nat) :
    Kept X Y s (t.stepDemand d p v) := by
  unfold State.stepDemand
  split
  · exact h.placeDemand hd hy _ _
  · exact h

theorem Kept.stepRelease (h : Kept X Y s t) (hd : X d) (hy : Y d) (p : Port) :
    Kept X Y s (t.stepRelease d p) := by
  unfold State.stepRelease
  split
  · exact h.removeDemand hd hy _
  · exact h

theorem Kept.resolveAfterReset (h : Kept X Y s t) (hd : X d) (hy : Y d) : Kept X Y s (t.resolveAfterReset d) := by
  unfold State.resolveAfterReset
  exact .ite (fun _ => (h.resolve hd hy).settleStopped hd) (fun _ => h.resolve hd hy)

theorem Kept.reportAbsent (h : Kept X Y s t) (hd : X d) : Kept X Y s (t.reportAbsent d) := by
  unfold State.reportAbsent
  exact .ite (fun _ => h.report hd _) (fun _ => h)

end Sys2Proof.Machine
end

