-- ==== Sys2Proof/Laws/Event.lean ====
section
/-! SUPPORT. What an event of the unit can do beside the effect it wraps: the end of waits, the clearing of the model's own marks,
and the service of a request. -/

namespace Sys2Proof.Machine

variable {X Y : Drive → Prop} {s t u : State}

/-! ### DrivesOnly -/

theorem DrivesOnly.refl (X Y : Drive → Prop) (s : State) : DrivesOnly X Y s s := by
  constructor <;> first | (intros; rfl) | (intros; assumption) | skip
  intro d h; exact .inl h

theorem DrivesOnly.trans (h : DrivesOnly X Y s t) (k : DrivesOnly X Y t u) : DrivesOnly X Y s u where
  settings := k.settings.trans h.settings
  envelope := k.envelope.trans h.envelope
  weatherRx := k.weatherRx.trans h.weatherRx
  envSubs := k.envSubs.trans h.envSubs
  held := k.held.trans h.held
  resetLine := k.resetLine.trans h.resetLine
  pending := k.pending.trans h.pending
  restart := k.restart.trans h.restart
  faults := by rw [k.faults, h.faults]
  receiver p := (k.receiver p).trans (h.receiver p)
  sending p := (k.sending p).trans (h.sending p)
  lastSource p := (k.lastSource p).trans (h.lastSource p)
  sequence p := (k.sequence p).trans (h.sequence p)
  quiet p := (k.quiet p).trans (h.quiet p)
  still p x hx := k.still p x (h.still p x hx)
  pins d := (k.pins d).trans (h.pins d)
  subs d := (k.subs d).trans (h.subs d)
  waiting d hd := (k.waiting d hd).elim (h.waiting d) .inr
  others d hx hw := (k.others d hx (fun hd => (h.waiting d hd).elim hw hx)).trans (h.others d hx hw)
  demand d hy := (k.demand d hy).trans (h.demand d hy)

/-- What `Kept` says, without the sweeps, the store and the queues. -/
theorem Kept.drivesOnly (h : Kept X Y s t) : DrivesOnly X Y s t where
  settings := h.settings
  envelope := h.envelope
  weatherRx := h.weatherRx
  envSubs := h.envSubs
  held := h.held
  resetLine := h.resetLine
  pending := h.pending
  restart := h.restart
  faults := h.faults
  receiver p := by rw [h.port p]
  sending p := by rw [h.port p]
  lastSource p := by rw [h.port p]
  sequence p := by rw [h.port p]
  quiet p := by rw [h.port p]
  still := h.still
  pins := h.pins
  subs := h.subs
  waiting := h.waiting
  others := h.others
  demand := h.demand

theorem Kept.queuesSame (h : Kept X Y s t) : QueuesSame s t :=
  ⟨h.turn, fun p => by rw [h.port p]; exact ⟨rfl, rfl⟩⟩

theorem QueuesSame.trans (h : QueuesSame s t) (k : QueuesSame t u) : QueuesSame s u :=
  ⟨k.1.trans h.1, fun p => ⟨(k.2 p).1.trans (h.2 p).1, (k.2 p).2.trans (h.2 p).2⟩⟩

/-! ### The sweep engine -/

/-- What the sweep engine's own operations change: the contexts, and the notice queue of an owner. -/
structure SweepOnly (s t : State) : Prop where
  drives : t.drives = s.drives
  store : t.store = s.store
  slots : t.arbiter = s.arbiter
  compFaults : t.faults = s.faults
  drivesOnly : DrivesOnly (fun _ => False) (fun _ => False) s t
  queues : QueuesSame s t
  nodup : ∀ p, (s.port p).notices.Nodup → (t.port p).notices.Nodup

theorem SweepOnly.refl (s : State) : SweepOnly s s :=
  ⟨rfl, rfl, rfl, rfl, .refl _ _ _, ⟨rfl, fun _ => ⟨rfl, rfl⟩⟩, fun _ h => h⟩

theorem SweepOnly.trans (h : SweepOnly s t) (k : SweepOnly t u) : SweepOnly s u :=
  ⟨k.drives.trans h.drives, k.store.trans h.store, k.slots.trans h.slots, k.compFaults.trans h.compFaults,
   h.drivesOnly.trans k.drivesOnly, h.queues.trans k.queues, fun p hp => k.nodup p (h.nodup p hp)⟩

theorem SweepOnly.withSweeps (s : State) (w : Sweeps) : SweepOnly s (s.withSweeps w) := by
  refine ⟨rfl, rfl, rfl, rfl, ?_, ⟨rfl, fun _ => ⟨rfl, rfl⟩⟩, fun _ h => h⟩
  constructor <;> first | rfl | (intros; rfl) | skip
  · exact fun _ _ hx => hx
  · exact fun _ hd => .inl hd

theorem SweepOnly.mark (s : State) (p : Port) (x : Subject) : SweepOnly s (s.mark p x) :=
  have h := Kept.mark (.refl (fun _ => False) (fun _ => False) s) p x
  ⟨rfl, rfl, rfl, rfl, h.drivesOnly, h.queuesSame, h.nodup⟩

theorem SweepOnly.endSweep (s : State) (c : Context) (x : SweepCtx) : SweepOnly s (s.endSweep c x) :=
  ((SweepOnly.withSweeps s _).trans (.withSweeps _ _)).trans (.mark _ _ _)

theorem SweepOnly.goOn (s : State) (c : Context) (x : SweepCtx) : SweepOnly s (s.goOn c x) := by
  unfold State.goOn
  split
  · exact .endSweep _ _ _
  · exact .withSweeps _ _

theorem SweepOnly.endWaitIfOver (s : State) (c : Context) : SweepOnly s (s.endWaitIfOver c) := by
  unfold State.endWaitIfOver
  split
  · unfold State.endWait
    dsimp only
    split
    · exact .refl s
    · exact .goOn _ _ _
  · exact .refl s

theorem SweepOnly.setFree (s : State) (n : Nat) : SweepOnly s { s with freeCount := n } := by
  refine ⟨rfl, rfl, rfl, rfl, ?_, ⟨rfl, fun _ => ⟨rfl, rfl⟩⟩, fun _ h => h⟩
  exact (Kept.setFree (.refl _ _ s) n).drivesOnly

/-- The reports of rest at the end of an event change the sweep engine and the notice queues alone. -/
theorem SweepOnly.settleWaits (s : State) : SweepOnly s s.settleWaits := by
  unfold State.settleWaits
  split
  · dsimp only
    split
    · exact (SweepOnly.setFree s _).trans ((SweepOnly.endWaitIfOver _ _).trans (.endWaitIfOver _ _))
    · exact (SweepOnly.setFree s _).trans ((SweepOnly.endWaitIfOver _ _).trans (.endWaitIfOver _ _))
  · exact (SweepOnly.endWaitIfOver _ _).trans (.endWaitIfOver _ _)

/-! ### What the sweep engine does with one context -/

theorem State.mark_sweeps (s : State) (p : Port) (x : Subject) : (s.mark p x).sweeps = s.sweeps := rfl

theorem Sweeps.get_set_same (w : Sweeps) (c : Context) (x : SweepCtx) : (w.set c x).get c = x := by cases c <;> rfl

theorem Sweeps.get_set_ne (w : Sweeps) {c k : Context} (h : k ≠ c) (x : SweepCtx) : (w.set c x).get k = w.get k := by
  cases c <;> cases k <;> first | rfl | exact absurd rfl h

theorem Sweeps.pointer_set (w : Sweeps) (c : Context) (x : SweepCtx) : (w.set c x).pointer = w.pointer := by
  cases c <;> rfl

theorem State.endSweep_sweep (s : State) (c : Context) (x : SweepCtx) :
    (s.endSweep c x).sweep c =
      { x with state := .idle, completion := some s.sweeps.nextCompletion, inHand := none } := by
  cases c <;> rfl

theorem State.endSweep_sweep_ne (s : State) {c k : Context} (h : k ≠ c) (x : SweepCtx) :
    (s.endSweep c x).sweep k = s.sweep k := by
  cases c <;> cases k <;> first | rfl | exact absurd rfl h

theorem State.endSweep_pointer (s : State) (c : Context) (x : SweepCtx) :
    (s.endSweep c x).sweeps.pointer = s.sweeps.pointer := by cases c <;> rfl

theorem State.endSweep_next (s : State) (c : Context) (x : SweepCtx) :
    (s.endSweep c x).sweeps.nextCompletion = s.sweeps.nextCompletion + 1 := rfl

/-- A context that goes on gives one completion order if its sweep ends, and none otherwise. -/
theorem State.goOn_next (s : State) (c : Context) (x : SweepCtx) :
    (s.goOn c x).sweeps.nextCompletion =
      if x.nextIndex.isNone = true then s.sweeps.nextCompletion + 1 else s.sweeps.nextCompletion := by
  unfold State.goOn
  split
  · rfl
  · cases c <;> rfl

theorem State.goOn_next_le (s : State) (c : Context) (x : SweepCtx) :
    s.sweeps.nextCompletion ≤ (s.goOn c x).sweeps.nextCompletion := by
  rw [State.goOn_next]; split <;> omega

theorem State.goOn_sweep_ne (s : State) {c k : Context} (h : k ≠ c) (x : SweepCtx) :
    (s.goOn c x).sweep k = s.sweep k := by
  unfold State.goOn
  split
  · exact s.endSweep_sweep_ne h _
  · exact Sweeps.get_set_ne _ h _

theorem State.goOn_pointer (s : State) (c : Context) (x : SweepCtx) :
    (s.goOn c x).sweeps.pointer = s.sweeps.pointer := by
  unfold State.goOn
  split
  · exact s.endSweep_pointer c _
  · exact Sweeps.pointer_set _ _ _

theorem State.goOn_state (s : State) (c : Context) (x : SweepCtx) : ((s.goOn c x).sweep c).state ≠ .waiting := by
  unfold State.goOn
  split
  · rw [State.endSweep_sweep]; simp
  · rw [State.setSweep_sweep_same]; simp

/-- The end of a wait leaves another context, and a context that does not wait, as it was. -/
theorem State.endWaitIfOver_sweeps (s : State) (c k : Context) (h : k ≠ c ∨ (s.sweep c).state ≠ .waiting) :
    (s.endWaitIfOver c).sweep k = s.sweep k ∧ (s.endWaitIfOver c).sweeps.pointer = s.sweeps.pointer := by
  unfold State.endWaitIfOver
  split
  · next hw =>
    have hs : (s.sweep c).state = .waiting := by
      simp only [State.waitOver, Bool.and_eq_true, beq_iff_eq] at hw; exact hw.1
    have hk : k ≠ c := h.resolve_right (fun e => e hs)
    unfold State.endWait
    dsimp only
    split
    · exact ⟨rfl, rfl⟩
    · exact ⟨s.goOn_sweep_ne hk _, s.goOn_pointer c _⟩
  · exact ⟨rfl, rfl⟩

/-- The end of a wait gives completion orders from the next one on, and none where the context does not wait. -/
theorem State.endWaitIfOver_next (s : State) (c : Context) :
    s.sweeps.nextCompletion ≤ (s.endWaitIfOver c).sweeps.nextCompletion ∧
    ((s.sweep c).state ≠ .waiting → (s.endWaitIfOver c).sweeps.nextCompletion = s.sweeps.nextCompletion) := by
  unfold State.endWaitIfOver
  split
  · next hw =>
    have hs : (s.sweep c).state = .waiting := by
      simp only [State.waitOver, Bool.and_eq_true, beq_iff_eq] at hw; exact hw.1
    refine ⟨?_, fun h => absurd hs h⟩
    unfold State.endWait
    dsimp only
    split
    · exact Nat.le_refl _
    · exact s.goOn_next_le c _
  · exact ⟨Nat.le_refl _, fun _ => rfl⟩

theorem State.endWaitIfOver_waitOver (s : State) (c : Context) : (s.endWaitIfOver c).waitOver c = false := by
  unfold State.endWaitIfOver
  split
  · next hw =>
    have hw' := hw
    simp only [State.waitOver, Bool.and_eq_true, beq_iff_eq] at hw'
    unfold State.endWait
    dsimp only
    split
    · next hn => rw [hn] at hw'; simp at hw'
    · have := s.goOn_state c
      simp only [State.waitOver, Bool.and_eq_false_iff, beq_eq_false_iff_ne, ne_eq]
      exact .inl (this _)
  · next hw => simpa using hw

/-- Whether a wait is over is read from its context and the motion states. -/
theorem State.waitOver_congr {s t : State} {c : Context} (h1 : t.sweep c = s.sweep c) (h2 : t.drives = s.drives) :
    t.waitOver c = s.waitOver c := by
  have h3 : ∀ d, t.drive d = s.drive d := fun d => by simp only [State.drive, h2]
  simp only [State.waitOver, h1, h3]

/-- The reports of rest leave no wait over, keep the contexts that did not wait, and keep the pointer. -/
theorem State.settleWaits_spec (s : State) :
    (∀ c, s.settleWaits.waitOver c = false) ∧ s.settleWaits.sweeps.pointer = s.sweeps.pointer ∧
    ∀ c, (s.sweep c).state ≠ .waiting → s.settleWaits.sweep c = s.sweep c := by
  have two : ∀ (w : State) (a b : Context), a ≠ b → (∀ c, c = a ∨ c = b) →
      (∀ c, ((w.endWaitIfOver a).endWaitIfOver b).waitOver c = false) ∧
      ((w.endWaitIfOver a).endWaitIfOver b).sweeps.pointer = w.sweeps.pointer ∧
      ∀ c, (w.sweep c).state ≠ .waiting → ((w.endWaitIfOver a).endWaitIfOver b).sweep c = w.sweep c := by
    intro w a b hab hall
    have key : ((w.endWaitIfOver a).endWaitIfOver b).sweep a = (w.endWaitIfOver a).sweep a :=
      ((w.endWaitIfOver a).endWaitIfOver_sweeps b a (.inl hab)).1
    refine ⟨fun c => ?_, ?_, fun c hc => ?_⟩
    · rcases hall c with rfl | rfl
      · rw [State.waitOver_congr key (SweepOnly.endWaitIfOver _ b).drives]; exact w.endWaitIfOver_waitOver c
      · exact State.endWaitIfOver_waitOver _ _
    · rw [((w.endWaitIfOver a).endWaitIfOver_sweeps b a (.inl hab)).2, (w.endWaitIfOver_sweeps a b (.inl hab.symm)).2]
    · rcases hall c with rfl | rfl
      · rw [key, (w.endWaitIfOver_sweeps c c (.inr hc)).1]
      · have e := (w.endWaitIfOver_sweeps a c (.inl hab.symm)).1
        rw [((w.endWaitIfOver a).endWaitIfOver_sweeps c c (.inr (by rw [e]; exact hc))).1, e]
  have a12 : ∀ c : Context, c = .one ∨ c = .two := fun c => by cases c <;> simp
  have a21 : ∀ c : Context, c = .two ∨ c = .one := fun c => by cases c <;> simp
  unfold State.settleWaits
  split
  · dsimp only
    split
    · exact two { s with freeCount := s.freeCount + 1 } .one .two (by decide) a12
    · exact two { s with freeCount := s.freeCount + 1 } .two .one (by decide) a21
  · exact two s .one .two (by decide) a12

/-- The reports of rest give completion orders from the next one on, and none where no context waits. -/
theorem State.settleWaits_next (s : State) :
    s.sweeps.nextCompletion ≤ s.settleWaits.sweeps.nextCompletion ∧
    ((∀ c, (s.sweep c).state ≠ .waiting) → s.settleWaits.sweeps.nextCompletion = s.sweeps.nextCompletion) := by
  have two : ∀ (w : State) (a b : Context), a ≠ b →
      w.sweeps.nextCompletion ≤ ((w.endWaitIfOver a).endWaitIfOver b).sweeps.nextCompletion ∧
      ((∀ c, (w.sweep c).state ≠ .waiting) →
        ((w.endWaitIfOver a).endWaitIfOver b).sweeps.nextCompletion = w.sweeps.nextCompletion) := by
    intro w a b hab
    refine ⟨(w.endWaitIfOver_next a).1.trans ((w.endWaitIfOver a).endWaitIfOver_next b).1, fun h => ?_⟩
    have hb : ((w.endWaitIfOver a).sweep b).state ≠ .waiting := by
      rw [(w.endWaitIfOver_sweeps a b (.inl hab.symm)).1]; exact h b
    exact (((w.endWaitIfOver a).endWaitIfOver_next b).2 hb).trans ((w.endWaitIfOver_next a).2 (h a))
  unfold State.settleWaits
  split
  · dsimp only
    split
    · exact two { s with freeCount := s.freeCount + 1 } .one .two (by decide)
    · exact two { s with freeCount := s.freeCount + 1 } .two .one (by decide)
  · exact two s .one .two (by decide)

/-! ### The model's own marks -/

theorem State.clearEvent_sweepOnly (s : State) : SweepOnly s s.clearEvent := by
  refine ⟨rfl, rfl, rfl, rfl, ?_, ⟨rfl, fun p => by cases p <;> exact ⟨rfl, rfl⟩⟩, fun p h => by cases p <;> exact h⟩
  constructor <;> first | rfl | (intro p; cases p <;> rfl) | (intros; rfl) | skip
  · intro p x hx; cases p <;> exact hx
  · exact fun _ hd => .inl hd

/-- Between events there is nothing to clear. -/
theorem State.Settled.clearEvent {s : State} (h : s.Settled) : s.clearEvent = s := by
  have h1 := h.fresh .climate; have h2 := h.fresh .heat; have h3 := h.fresh .panel; have h4 := h.granted
  obtain ⟨_, _, _, _, _, ⟨⟨⟩, ⟨⟩, ⟨⟩⟩, _, _, _, _, _, _, _, _, _, _⟩ := s
  simp only [State.port, PerPort.get] at h1 h2 h3 h4
  subst h1 h2 h3 h4
  rfl

/-- Where no wait is over, the reports of rest change nothing. -/
theorem State.settleWaits_eq {s : State} (h : ∀ c, s.waitOver c = false) : s.settleWaits = s := by
  simp [State.settleWaits, State.endWaitIfOver, h]

/-- An event leaves the unit between events. -/
theorem State.event_settled (s : State) (f : State → State) : (s.event f).Settled where
  granted := rfl
  fresh p := by cases p <;> rfl
  waits c := (State.settleWaits_spec (f s.clearEvent)).1 c

/-- An event is its effect when the effect leaves nothing to settle. -/
theorem State.Settled.event_eq {s : State} (h : s.Settled) {f : State → State} (k : (f s).Settled) :
    s.event f = f s := by
  unfold State.event
  rw [h.clearEvent, State.settleWaits_eq k.waits, k.clearEvent]

/-- What an event does when its effect is one on drives. -/
theorem Kept.event {f : State → State} (h : Kept X Y s.clearEvent (f s.clearEvent)) :
    DrivesOnly X Y s (s.event f) ∧ QueuesSame s (s.event f) ∧ SweepsSame s (s.event f) ∧
    (s.event f).store = s.store ∧ (s.event f).drives = (f s.clearEvent).drives := by
  have a := s.clearEvent_sweepOnly
  have b := SweepOnly.settleWaits (f s.clearEvent)
  have c := State.clearEvent_sweepOnly (f s.clearEvent).settleWaits
  have weak : ∀ {u v : State}, DrivesOnly (fun _ => False) (fun _ => False) u v → DrivesOnly X Y u v := fun k =>
    { k with
      waiting := fun d hd => (k.waiting d hd).imp_right False.elim
      others := fun d _ hw => k.others d id hw
      demand := fun d _ => k.demand d id }
  obtain ⟨-, e2, e3⟩ := State.settleWaits_spec (f s.clearEvent)
  obtain ⟨e4, e5⟩ := State.settleWaits_next (f s.clearEvent)
  have hn : (f s.clearEvent).sweeps.nextCompletion = s.sweeps.nextCompletion := congrArg Sweeps.nextCompletion h.sweeps
  have hs : ∀ k, (f s.clearEvent).sweep k = s.sweep k := fun k => congrArg (fun w => Sweeps.get w k) h.sweeps
  refine ⟨(weak a.drivesOnly).trans (h.drivesOnly.trans ((weak b.drivesOnly).trans (weak c.drivesOnly))),
    a.queues.trans (h.queuesSame.trans (b.queues.trans c.queues)), ⟨?_, fun k hk => ?_, hn ▸ e4, fun hw => ?_⟩, ?_, ?_⟩
  · exact e2.trans (congrArg Sweeps.pointer h.sweeps)
  · exact (e3 k (by rw [hs]; exact hk)).trans (hs k)
  · exact (e5 (fun k => by rw [hs]; exact hw k)).trans hn
  · exact c.store.trans (b.store.trans (h.store.trans a.store))
  · exact c.drives.trans b.drives

end Sys2Proof.Machine
end

