-- ==== Sys2Proof/WellFormed.lean ====
section
/-! DEFINITION. Which commands are well formed. -/

namespace Sys2Proof

/-- A list of drives names an order of the drives when no drive stands in it twice (log entry 9). -/
def orderOk (order : List Drive) : Bool := decide order.Nodup

/-- A command is well formed when its frame could stand on a line (08 R171: a payload of at most 120 bytes) and its
order of drives names no drive twice. Every other operand is well formed by its type. -/
def Instr.wellFormed : Instr → Bool
  | .requestArrival _ _ _ payload => decide (payload.length ≤ Config.maxPayload)
  | .saveCompletion order => orderOk order
  | .warmReset order => orderOk order
  | .resetHoldEnd order => orderOk order
  | .coldReset _ _ order => orderOk order
  | .interByteGap _ | .observation _ | .setDemand _ | .releaseDemand _ | .jog _ | .lockoutOn _ | .lockoutOff _
  | .setCap _ | .releaseCap _ | .home _ | .resetDrive _ | .readDrive _ | .readEnvelope _ | .readFaults _
  | .ackFaults _ | .subscribe _ | .unsubscribe _ | .startSweep _ | .cancelSweep _ | .readSweep _
  | .writeDriveSetup _ | .writeGroup _ | .writeCompartmentSetup _ | .saveSettings _ | .readDriveSetup _
  | .readGroup _ | .readCompartmentSetup _ | .setStep _ | .releaseStep _ | .homeStep _ | .scanStep _
  | .demandLapse _ _ | .capLapse _ | .envelopePush _ | .releaseTimerExpiry _ | .staleTimerExpiry | .grant
  | .spacingExpiry | .restartHoldExpiry | .plannedExpiry _ | .pulseEnd _ | .interPulseExpiry _ | .settleExpiry _
  | .reversalExpiry _ | .retryWaitExpiry _ | .stall _ | .coastWindowExpiry _ | .encoderPulse _
  | .switchActive _ _ | .switchInactive _ _ | .tripContactActive _ | .tripContactInactive _ | .transmitBegin _
  | .transmitCompletion _ | .byteArrival _ _ | .progressPointReached _ => true

end Sys2Proof
end

