-- ==== Sys2Proof/Laws/PerInstr.lean ====
section
/-! SUPPORT. What holds of each command as syntax: when it is well formed, and that no table word spells it. -/

namespace Sys2Proof.Laws

/-- What a command's operands must meet to be well formed (08 R171; log entry 9). -/
def operandsOk : Instr → Prop
  | .requestArrival _ _ _ payload => payload.length ≤ 120
  | .saveCompletion order | .warmReset order | .resetHoldEnd order | .coldReset _ _ order => order.Nodup
  | _ => True

/-- A command is well formed exactly when its operands are, and no word of the table spells it. -/
def Shape.Statement (i : Instr) : Prop :=
  (i.wellFormed = true ↔ operandsOk i) ∧ ∀ nbits w, decodeTableWord nbits w ≠ some i

theorem Shape.requestArrival (p : Port) (kind tag : Byte) (payload : List Byte) :
    Shape.Statement (.requestArrival p kind tag payload) :=
  ⟨decide_eq_true_iff, fun _ _ => nofun⟩

theorem Shape.interByteGap (l : Line) : Shape.Statement (.interByteGap l) :=
  ⟨by simp [Instr.wellFormed, operandsOk], fun _ _ => nofun⟩

theorem Shape.observation (o : WireObservation) : Shape.Statement (.observation o) :=
  ⟨by simp [Instr.wellFormed, operandsOk], fun _ _ => nofun⟩

theorem Shape.setDemand (p : Port) : Shape.Statement (.setDemand p) :=
  ⟨by simp [Instr.wellFormed, operandsOk], fun _ _ => nofun⟩

theorem Shape.releaseDemand (p : Port) : Shape.Statement (.releaseDemand p) :=
  ⟨by simp [Instr.wellFormed, operandsOk], fun _ _ => nofun⟩

theorem Shape.jog (p : Port) : Shape.Statement (.jog p) :=
  ⟨by simp [Instr.wellFormed, operandsOk], fun _ _ => nofun⟩

theorem Shape.lockoutOn (p : Port) : Shape.Statement (.lockoutOn p) :=
  ⟨by simp [Instr.wellFormed, operandsOk], fun _ _ => nofun⟩

theorem Shape.lockoutOff (p : Port) : Shape.Statement (.lockoutOff p) :=
  ⟨by simp [Instr.wellFormed, operandsOk], fun _ _ => nofun⟩

theorem Shape.setCap (p : Port) : Shape.Statement (.setCap p) :=
  ⟨by simp [Instr.wellFormed, operandsOk], fun _ _ => nofun⟩

theorem Shape.releaseCap (p : Port) : Shape.Statement (.releaseCap p) :=
  ⟨by simp [Instr.wellFormed, operandsOk], fun _ _ => nofun⟩

theorem Shape.home (p : Port) : Shape.Statement (.home p) :=
  ⟨by simp [Instr.wellFormed, operandsOk], fun _ _ => nofun⟩

theorem Shape.resetDrive (p : Port) : Shape.Statement (.resetDrive p) :=
  ⟨by simp [Instr.wellFormed, operandsOk], fun _ _ => nofun⟩

theorem Shape.readDrive (p : Port) : Shape.Statement (.readDrive p) :=
  ⟨by simp [Instr.wellFormed, operandsOk], fun _ _ => nofun⟩

theorem Shape.readEnvelope (p : Port) : Shape.Statement (.readEnvelope p) :=
  ⟨by simp [Instr.wellFormed, operandsOk], fun _ _ => nofun⟩

theorem Shape.readFaults (p : Port) : Shape.Statement (.readFaults p) :=
  ⟨by simp [Instr.wellFormed, operandsOk], fun _ _ => nofun⟩

theorem Shape.ackFaults (p : Port) : Shape.Statement (.ackFaults p) :=
  ⟨by simp [Instr.wellFormed, operandsOk], fun _ _ => nofun⟩

theorem Shape.subscribe (p : Port) : Shape.Statement (.subscribe p) :=
  ⟨by simp [Instr.wellFormed, operandsOk], fun _ _ => nofun⟩

theorem Shape.unsubscribe (p : Port) : Shape.Statement (.unsubscribe p) :=
  ⟨by simp [Instr.wellFormed, operandsOk], fun _ _ => nofun⟩

theorem Shape.startSweep (p : Port) : Shape.Statement (.startSweep p) :=
  ⟨by simp [Instr.wellFormed, operandsOk], fun _ _ => nofun⟩

theorem Shape.cancelSweep (p : Port) : Shape.Statement (.cancelSweep p) :=
  ⟨by simp [Instr.wellFormed, operandsOk], fun _ _ => nofun⟩

theorem Shape.readSweep (p : Port) : Shape.Statement (.readSweep p) :=
  ⟨by simp [Instr.wellFormed, operandsOk], fun _ _ => nofun⟩

theorem Shape.writeDriveSetup (p : Port) : Shape.Statement (.writeDriveSetup p) :=
  ⟨by simp [Instr.wellFormed, operandsOk], fun _ _ => nofun⟩

theorem Shape.writeGroup (p : Port) : Shape.Statement (.writeGroup p) :=
  ⟨by simp [Instr.wellFormed, operandsOk], fun _ _ => nofun⟩

theorem Shape.writeCompartmentSetup (p : Port) : Shape.Statement (.writeCompartmentSetup p) :=
  ⟨by simp [Instr.wellFormed, operandsOk], fun _ _ => nofun⟩

theorem Shape.saveSettings (p : Port) : Shape.Statement (.saveSettings p) :=
  ⟨by simp [Instr.wellFormed, operandsOk], fun _ _ => nofun⟩

theorem Shape.readDriveSetup (p : Port) : Shape.Statement (.readDriveSetup p) :=
  ⟨by simp [Instr.wellFormed, operandsOk], fun _ _ => nofun⟩

theorem Shape.readGroup (p : Port) : Shape.Statement (.readGroup p) :=
  ⟨by simp [Instr.wellFormed, operandsOk], fun _ _ => nofun⟩

theorem Shape.readCompartmentSetup (p : Port) : Shape.Statement (.readCompartmentSetup p) :=
  ⟨by simp [Instr.wellFormed, operandsOk], fun _ _ => nofun⟩

theorem Shape.setStep (c : Context) : Shape.Statement (.setStep c) :=
  ⟨by simp [Instr.wellFormed, operandsOk], fun _ _ => nofun⟩

theorem Shape.releaseStep (c : Context) : Shape.Statement (.releaseStep c) :=
  ⟨by simp [Instr.wellFormed, operandsOk], fun _ _ => nofun⟩

theorem Shape.homeStep (c : Context) : Shape.Statement (.homeStep c) :=
  ⟨by simp [Instr.wellFormed, operandsOk], fun _ _ => nofun⟩

theorem Shape.scanStep (c : Context) : Shape.Statement (.scanStep c) :=
  ⟨by simp [Instr.wellFormed, operandsOk], fun _ _ => nofun⟩

theorem Shape.demandLapse (d : Drive) (src : TimedSource) : Shape.Statement (.demandLapse d src) :=
  ⟨by simp [Instr.wellFormed, operandsOk], fun _ _ => nofun⟩

theorem Shape.capLapse (d : Drive) : Shape.Statement (.capLapse d) :=
  ⟨by simp [Instr.wellFormed, operandsOk], fun _ _ => nofun⟩

theorem Shape.envelopePush (d : Drive) : Shape.Statement (.envelopePush d) :=
  ⟨by simp [Instr.wellFormed, operandsOk], fun _ _ => nofun⟩

theorem Shape.releaseTimerExpiry (side : Side) : Shape.Statement (.releaseTimerExpiry side) :=
  ⟨by simp [Instr.wellFormed, operandsOk], fun _ _ => nofun⟩

theorem Shape.staleTimerExpiry : Shape.Statement (.staleTimerExpiry) :=
  ⟨by simp [Instr.wellFormed, operandsOk], fun _ _ => nofun⟩

theorem Shape.grant : Shape.Statement (.grant) :=
  ⟨by simp [Instr.wellFormed, operandsOk], fun _ _ => nofun⟩

theorem Shape.spacingExpiry : Shape.Statement (.spacingExpiry) :=
  ⟨by simp [Instr.wellFormed, operandsOk], fun _ _ => nofun⟩

theorem Shape.restartHoldExpiry : Shape.Statement (.restartHoldExpiry) :=
  ⟨by simp [Instr.wellFormed, operandsOk], fun _ _ => nofun⟩

theorem Shape.plannedExpiry (d : Drive) : Shape.Statement (.plannedExpiry d) :=
  ⟨by simp [Instr.wellFormed, operandsOk], fun _ _ => nofun⟩

theorem Shape.pulseEnd (d : Drive) : Shape.Statement (.pulseEnd d) :=
  ⟨by simp [Instr.wellFormed, operandsOk], fun _ _ => nofun⟩

theorem Shape.interPulseExpiry (d : Drive) : Shape.Statement (.interPulseExpiry d) :=
  ⟨by simp [Instr.wellFormed, operandsOk], fun _ _ => nofun⟩

theorem Shape.settleExpiry (d : Drive) : Shape.Statement (.settleExpiry d) :=
  ⟨by simp [Instr.wellFormed, operandsOk], fun _ _ => nofun⟩

theorem Shape.reversalExpiry (d : Drive) : Shape.Statement (.reversalExpiry d) :=
  ⟨by simp [Instr.wellFormed, operandsOk], fun _ _ => nofun⟩

theorem Shape.retryWaitExpiry (d : Drive) : Shape.Statement (.retryWaitExpiry d) :=
  ⟨by simp [Instr.wellFormed, operandsOk], fun _ _ => nofun⟩

theorem Shape.stall (d : Drive) : Shape.Statement (.stall d) :=
  ⟨by simp [Instr.wellFormed, operandsOk], fun _ _ => nofun⟩

theorem Shape.coastWindowExpiry (d : Drive) : Shape.Statement (.coastWindowExpiry d) :=
  ⟨by simp [Instr.wellFormed, operandsOk], fun _ _ => nofun⟩

theorem Shape.encoderPulse (d : Drive) : Shape.Statement (.encoderPulse d) :=
  ⟨by simp [Instr.wellFormed, operandsOk], fun _ _ => nofun⟩

theorem Shape.switchActive (d : Drive) (e : End) : Shape.Statement (.switchActive d e) :=
  ⟨by simp [Instr.wellFormed, operandsOk], fun _ _ => nofun⟩

theorem Shape.switchInactive (d : Drive) (e : End) : Shape.Statement (.switchInactive d e) :=
  ⟨by simp [Instr.wellFormed, operandsOk], fun _ _ => nofun⟩

theorem Shape.tripContactActive (d : Drive) : Shape.Statement (.tripContactActive d) :=
  ⟨by simp [Instr.wellFormed, operandsOk], fun _ _ => nofun⟩

theorem Shape.tripContactInactive (d : Drive) : Shape.Statement (.tripContactInactive d) :=
  ⟨by simp [Instr.wellFormed, operandsOk], fun _ _ => nofun⟩

theorem Shape.transmitBegin (p : Port) : Shape.Statement (.transmitBegin p) :=
  ⟨by simp [Instr.wellFormed, operandsOk], fun _ _ => nofun⟩

theorem Shape.transmitCompletion (p : Port) : Shape.Statement (.transmitCompletion p) :=
  ⟨by simp [Instr.wellFormed, operandsOk], fun _ _ => nofun⟩

theorem Shape.saveCompletion (order : List Drive) : Shape.Statement (.saveCompletion order) :=
  ⟨by simp [Instr.wellFormed, orderOk, operandsOk], fun _ _ => nofun⟩

theorem Shape.warmReset (order : List Drive) : Shape.Statement (.warmReset order) :=
  ⟨by simp [Instr.wellFormed, orderOk, operandsOk], fun _ _ => nofun⟩

theorem Shape.resetHoldEnd (order : List Drive) : Shape.Statement (.resetHoldEnd order) :=
  ⟨by simp [Instr.wellFormed, orderOk, operandsOk], fun _ _ => nofun⟩

theorem Shape.coldReset (present : Vector Bool 6) (imageCut : Bool) (order : List Drive) :
    Shape.Statement (.coldReset present imageCut order) :=
  ⟨by simp [Instr.wellFormed, orderOk, operandsOk], fun _ _ => nofun⟩

theorem Shape.byteArrival (l : Line) (b : Byte) : Shape.Statement (.byteArrival l b) :=
  ⟨by simp [Instr.wellFormed, operandsOk], fun _ _ => nofun⟩

theorem Shape.progressPointReached (d : Drive) : Shape.Statement (.progressPointReached d) :=
  ⟨by simp [Instr.wellFormed, operandsOk], fun _ _ => nofun⟩

end Sys2Proof.Laws
end

