-- ==== Sys2Proof/Laws/Resolve.lean ====
section
/-! SUPPORT. What a resolution makes of the demand table entry of its drive, said once. -/

namespace Sys2Proof.Machine

variable {s : State} {d : Drive}

/-- The table's part of a resolution and the displacement it records. -/
def Demand.settled (m : Demand) (fallback : Option Nat) (position : Nat) : Demand :=
  match m.displaces (m.resolved fallback position) with
  | some x => (m.resolved fallback position).recordDisplaced x
  | none => m.resolved fallback position

/-- The demand table entry after a resolution. -/
theorem State.resolve_demand (s : State) (d : Drive) :
    ((s.resolve d).drive d).demand = (s.drive d).demand.settled (s.setup d).fallback (s.livePosition d) := by
  unfold State.resolve
  have tail : ∀ (w : State) (a b : Demand), (((w.handOn d a b).raise d).drive d).demand =
      (w.drive d).demand := fun w a b =>
    (((Kept.refl (· = d) (fun _ => False) w).handOn rfl a b).raise d).demand d id
  have mk : ∀ (w : State), ((w.markDrive d).drive d).demand = (w.drive d).demand := fun w =>
    ((Kept.refl (· = d) (fun _ => False) w).markDrive d).demand d id
  have dis : ∀ (m : Demand) (x : Option Source), ((((s.withDemand d m).displace d x).drive d)).demand =
      (match x with | some y => m.recordDisplaced y | none => m) := by
    intro m x
    unfold State.displace
    cases x with
    | none => simp
    | some y =>
      have e := ((Kept.refl (· = d) (fun _ => False)
        ((s.withDemand d m).withDemand d ((((s.withDemand d m).drive d).demand).recordDisplaced y))).mark
        (sourcePort y) (.displaced d)).demand d id
      simpa using e
  dsimp only
  rw [tail]
  split
  · rw [dis]; rfl
  · rw [mk, dis]; rfl

/-- The governing value is the number that the governing entry holds (02 R44, R45). -/
theorem Demand.valueNow_eq {m : Demand} {fallback : Option Nat} {v : Nat} (h : m.governingValue fallback = some v) :
    m.lockout = false ∧ m.valueNow fallback = v := by
  obtain ⟨lockout, panel, climate, cap, _, _, _, _, _, _, _, _, _⟩ := m
  cases lockout <;> cases panel <;> cases climate <;>
    simp_all [Demand.governingValue, Demand.valueNow, Demand.governingNow]

/-- Under HOLD the governing value is the effective target held before (02 R45). -/
theorem Demand.valueNow_hold {m : Demand} {fallback : Option Nat} (h : m.governingValue fallback = none)
    (hl : m.lockout = false) : m.valueNow fallback = m.target := by
  obtain ⟨lockout, panel, climate, cap, _, _, _, _, _, _, _, _, _⟩ := m
  cases lockout <;> cases panel <;> cases climate <;>
    simp_all [Demand.governingValue, Demand.valueNow, Demand.governingNow]

/-- The effective target of a drive that is not under lockout (02 R47). -/
theorem Demand.resolved_target {m : Demand} (fallback : Option Nat) (position : Nat) (hl : m.lockout = false) :
    (m.resolved fallback position).target =
      if m.ceilingNow < m.envFloor then m.envFloor else clampNat m.envFloor m.ceilingNow (m.valueNow fallback) := by
  have hg : m.governingNow ≠ .lockout := by
    unfold Demand.governingNow
    rw [hl]
    simp only [Bool.false_eq_true, if_false]
    split
    · simp
    · split <;> simp
  exact if_neg hg

/-- The effective target under lockout (02 R48). -/
theorem Demand.resolved_locked {m : Demand} (fallback : Option Nat) (position : Nat) (hl : m.lockout = true) :
    (m.resolved fallback position).target = position := by
  have hg : m.governingNow = .lockout := by unfold Demand.governingNow; rw [hl]; rfl
  exact if_pos hg

/-- A resolution sets the table by the rules 02 R44 to R48. -/
theorem Demand.resolved_spec (m : Demand) (fallback : Option Nat) (position : Nat) :
    (m.resolved fallback position).ResolvedFrom fallback position m.target := by
  have gv : (m.resolved fallback position).governingValue fallback = m.governingValue fallback := rfl
  have hc : (m.resolved fallback position).ceiling = m.ceilingNow := rfl
  have hf : (m.resolved fallback position).floor = m.envFloor := rfl
  have hl : (m.resolved fallback position).lockout = m.lockout := rfl
  refine ⟨⟨rfl, rfl, ?_, rfl, ?_, ?_, ?_⟩, fun h => Demand.resolved_locked fallback position h, ?_⟩
  · rw [hc]; unfold Demand.ceilingNow; rw [show (m.resolved fallback position).cap = m.cap from rfl]; cases m.cap <;> rfl
  · intro h hle
    rw [hc, hf] at *
    rw [Demand.resolved_target (m := m) fallback position h, if_neg (by omega)]
    unfold clampNat; omega
  · intro h hlt
    rw [hc, hf] at *
    rw [Demand.resolved_target (m := m) fallback position h, if_pos hlt]
  · intro hle v hv
    rw [hc, hf] at *
    rw [gv] at hv
    obtain ⟨h, rfl⟩ := Demand.valueNow_eq hv
    rw [Demand.resolved_target (m := m) fallback position h, if_neg (by omega)]
  · intro h hn hle
    rw [hc, hf] at *
    rw [Demand.resolved_target (m := m) fallback position h, if_neg (by omega), Demand.valueNow_hold (m := m) hn h]

/-- What a resolution leaves in the table, by the rules 02 R44 to R51. -/
theorem Demand.settled_spec (m : Demand) (fallback : Option Nat) (position : Nat) :
    m.SameEntries (m.settled fallback position) ∧ m.ResolvesTo (m.settled fallback position) fallback position := by
  have key : ∀ (n : Demand), n = m.settled fallback position →
      ∃ a b, n = { m.resolved fallback position with displacedClimate := a, displacedPanel := b } ∧
        a = (if m.governing = .climate ∧ m.climate.isSome = true ∧
            ((m.resolved fallback position).governing = .panel ∨ (m.resolved fallback position).governing = .lockout)
          then some (m.resolved fallback position).governing else m.displacedClimate) ∧
        b = (if m.governing = .panel ∧ m.panel.isSome = true ∧ (m.resolved fallback position).governing = .lockout
          then some .lockout else m.displacedPanel) := by
    intro n hn
    refine ⟨n.displacedClimate, n.displacedPanel, ?_, ?_, ?_⟩
    · rw [hn]; unfold Demand.settled Demand.recordDisplaced; split
      · split <;> rfl
      · rfl
    all_goals
      rw [hn]
      unfold Demand.settled Demand.displaces
      generalize hg : (m.resolved fallback position).governing = g
      have hc : (m.resolved fallback position).climate = m.climate := rfl
      have hp : (m.resolved fallback position).panel = m.panel := rfl
      have h1 : (m.resolved fallback position).displacedClimate = m.displacedClimate := rfl
      have h2 : (m.resolved fallback position).displacedPanel = m.displacedPanel := rfl
      rw [hc, hp]
      cases hm : m.governing <;> cases g <;> cases m.climate <;> cases m.panel <;>
        simp [Demand.recordDisplaced, hg, h1, h2]
  obtain ⟨a, b, h, ha, hb⟩ := key _ rfl
  have r := m.resolved_spec fallback position
  rw [h]
  exact ⟨⟨rfl, rfl, rfl, rfl, rfl, rfl⟩,
    ⟨⟨r.resolved.governing, r.resolved.floor, r.resolved.ceiling, r.resolved.conflict, r.resolved.within,
      r.resolved.floorWins, r.resolved.value⟩, r.locked, r.hold⟩, ha, hb⟩

/-! ### Displacements -/

/-- A subject that is marked is pending in the queue of its port (09 R195). -/
theorem State.mark_mem (s : State) (p : Port) (x : Subject) : x ∈ ((s.mark p x).port p).notices := by
  have e : (s.mark p x).port p = (s.port p).marked s.freeCount x := State.setPort_port_same s p _
  rw [e]
  exact ((MasterPort.marked_spec _ _ _).2.1 x).2 (.inl rfl)

/-- A resolution that displaces a source leaves DISPLACED pending on that source's port (02 R51, 09 R196). -/
theorem State.resolve_displaced {x : Source}
    (h : (s.drive d).demand.displaces
      ((s.drive d).demand.resolved (s.setup d).fallback (s.livePosition d)) = some x) :
    Subject.displaced d ∈ ((s.resolve d).port (sourcePort x)).notices := by
  unfold State.resolve
  dsimp only
  rw [h]
  generalize (s.drive d).demand.resolved (s.setup d).fallback (s.livePosition d) = new
  set w : State := (s.withDemand d new).displace d (some x) with hw
  have mem : Subject.displaced d ∈ (w.port (sourcePort x)).notices := State.mark_mem _ _ _
  have k : Kept (· = d) (· = d) w (if new.target = (s.drive d).demand.target ∧
      new.governing = (s.drive d).demand.governing ∧ new.conflict = (s.drive d).demand.conflict then w
      else w.markDrive d) := .ite (fun _ => .refl _ _ _) (fun _ => (Kept.refl _ _ _).markDrive d)
  exact ((k.handOn rfl _ _).raise d).still _ _ mem

/-! ### Marking touches no drive -/

theorem State.markFor_same (w : State) (v : PerPort Bool) (x : Subject) :
    (w.markFor v x).drives = w.drives ∧ (w.markFor v x).arbiter = w.arbiter := by
  have one : ∀ (w : State) (p : Port), (if v.get p then w.mark p x else w).drives = w.drives ∧
      (if v.get p then w.mark p x else w).arbiter = w.arbiter := by
    intro w p; split <;> exact ⟨rfl, rfl⟩
  have a := one w .climate
  have b := one (if v.get .climate then w.mark .climate x else w) .heat
  have c := one (if v.get .heat then (if v.get .climate then w.mark .climate x else w).mark .heat x
    else (if v.get .climate then w.mark .climate x else w)) .panel
  exact ⟨c.1.trans (b.1.trans a.1), c.2.trans (b.2.trans a.2)⟩

@[simp] theorem State.markDrive_drives (w : State) (d : Drive) : (w.markDrive d).drives = w.drives :=
  (w.markFor_same _ _).1

@[simp] theorem State.markDrive_drive (w : State) (d k : Drive) : (w.markDrive d).drive k = w.drive k :=
  congrArg (fun v : Vector DriveRec 24 => v[k]) (w.markDrive_drives d)

@[simp] theorem State.markDrive_arbiter (w : State) (d : Drive) : (w.markDrive d).arbiter = w.arbiter :=
  (w.markFor_same _ _).2

@[simp] theorem State.markSummary_drives (w : State) : w.markSummary.drives = w.drives := (w.markFor_same _ _).1

@[simp] theorem State.markSummary_drive (w : State) (k : Drive) : w.markSummary.drive k = w.drive k :=
  congrArg (fun v : Vector DriveRec 24 => v[k]) w.markSummary_drives

@[simp] theorem State.markSummary_arbiter (w : State) : w.markSummary.arbiter = w.arbiter := (w.markFor_same _ _).2

@[simp] theorem State.refreshSummary_drives (w : State) : w.refreshSummary.drives = w.drives := by
  unfold State.refreshSummary; dsimp only; split
  · rfl
  · exact State.markSummary_drives _

@[simp] theorem State.refreshSummary_drive (w : State) (k : Drive) : w.refreshSummary.drive k = w.drive k :=
  congrArg (fun v : Vector DriveRec 24 => v[k]) w.refreshSummary_drives

@[simp] theorem State.refreshSummary_arbiter (w : State) : w.refreshSummary.arbiter = w.arbiter := by
  unfold State.refreshSummary; dsimp only; split
  · rfl
  · exact State.markSummary_arbiter _

/-! ### The two parts of a resolution -/

/-- The table's part of a resolution at the state: the entry, the displacement and the notices. -/
def State.resolvedTable (s : State) (d : Drive) : State :=
  let old := (s.drive d).demand
  let new := old.resolved (s.setup d).fallback (s.livePosition d)
  let s1 := (s.withDemand d new).displace d (old.displaces new)
  if new.target = old.target ∧ new.governing = old.governing ∧ new.conflict = old.conflict then s1 else s1.markDrive d

/-- A resolution is the table's part and then the drive controller's. -/
theorem State.resolve_eq (s : State) (d : Drive) :
    s.resolve d = ((s.resolvedTable d).handOn d (s.drive d).demand
      ((s.drive d).demand.resolved (s.setup d).fallback (s.livePosition d))).raise d := rfl

theorem Kept.resolvedTable {X Y : Drive → Prop} {s t : State} (h : Kept X Y s t) (hd : X d) (hy : Y d) :
    Kept X Y s (t.resolvedTable d) := by
  unfold State.resolvedTable
  have h1 := fun m src => (h.withDemand hd hy m).displace hd hy src
  exact .ite (fun _ => h1 _ _) (fun _ => (h1 _ _).markDrive d)

/-- The table's part leaves everything of the drive but its demand table entry, and the start arbiter. -/
theorem State.resolvedTable_drive (s : State) (d : Drive) :
    (s.resolvedTable d).drive d =
      { s.drive d with demand := (s.drive d).demand.settled (s.setup d).fallback (s.livePosition d) } ∧
    (s.resolvedTable d).arbiter = s.arbiter := by
  have key : ∀ (m : Demand) (src : Option Source),
      ((s.withDemand d m).displace d src).drive d =
        { s.drive d with demand := match src with | some y => m.recordDisplaced y | none => m } ∧
      ((s.withDemand d m).displace d src).arbiter = s.arbiter := by
    intro m src
    cases src with
    | none => exact ⟨State.withDemand_drive_same _ _ _, rfl⟩
    | some y =>
      refine ⟨?_, rfl⟩
      have e : (((s.withDemand d m).displace d (some y)).drive d) =
          ((s.withDemand d m).withDemand d (((s.withDemand d m).drive d).demand.recordDisplaced y)).drive d := rfl
      rw [e, State.withDemand_drive_same, State.withDemand_drive_same]
  unfold State.resolvedTable
  dsimp only
  split
  · exact key _ _
  · exact ⟨(State.markDrive_drive _ _ _).trans (key _ _).1, (State.markDrive_arbiter _ _).trans (key _ _).2⟩

end Sys2Proof.Machine
end

