-- ==== Sys2Proof/Laws/Serve.lean ====
section
/-! SUPPORT. What the service of a request, an expiry and a sweep step can do, said once over the work they wrap. -/

namespace Sys2Proof.Machine

variable {X Y : Drive → Prop} {s t u : State} {p : Port} {f : Frame} {d : Drive}

/-! ### Services -/

theorem State.ServesNext.head {kind : Byte} (h : s.ServesNext p f) (hk : f.kind = kind) :
    s.headToServe p kind = some f := by
  obtain ⟨h1, h2, h3⟩ := h
  unfold State.headToServe
  rw [if_pos ⟨h1, h2⟩]
  cases hq : (s.port p).inbound with
  | nil => rw [hq] at h3; simp at h3
  | cons g rest =>
    rw [hq] at h3
    simp only [List.head?_cons, Option.some.injEq] at h3
    subst h3
    simp [hk]

/-- The service of the head request is one event. -/
theorem State.ServesNext.serve {kind : Byte} (h : s.ServesNext p f) (hk : f.kind = kind) (allowed : Bool)
    (work : State → List Byte → Answer) :
    s.serve p kind allowed work = s.event (fun t => t.answer p f allowed work) := by
  simp only [State.serve, h.head hk]

/-- Where a service changes nothing but the queues of its port, the state after it is known. -/
theorem State.Settled.serve_same (h : s.Settled) (hn : s.ServesNext p f) {kind : Byte} (hk : f.kind = kind)
    {allowed : Bool} {work : State → List Byte → Answer} {r : Result} {data : List Byte}
    (hw : (if allowed then work (s.takeHead p) f.payload else refuse (s.takeHead p) .notPermitted) =
      { state := s.takeHead p, result := r, data := data }) :
    s.serve p kind allowed work = s.afterService p (replyFrame f r data) := by
  have e : s.answer p f allowed work = s.afterService p (replyFrame f r data) := by
    simp only [State.answer, hw]
    unfold State.afterService State.pushReply
    rw [State.takeHead]
    have : ∀ (q : MasterPort), ({ s.setPort p q with turn := nextPort p } : State).port p = q := fun q =>
      State.setPort_port_same s p q
    simp only [this]
    cases p <;> rfl
  rw [hn.serve hk]
  have k : ((fun t : State => t.answer p f allowed work) s).Settled := by
    dsimp only
    rw [e]
    refine ⟨h.granted, fun q => ?_, fun c => h.waits c⟩
    have := h.fresh q
    cases p <;> cases q <;> exact this
  rw [h.event_eq k, e]

/-- What a service does when its work is one on drives and perhaps on the settings store: the reply, and the frame. -/
theorem State.ServesNext.serve_stored (hn : s.ServesNext p f) {kind : Byte} (hk : f.kind = kind) {allowed : Bool}
    {work : State → List Byte → Answer} {a : Answer} {b : State}
    {st : Store}
    (ha : (if allowed then work (s.clearEvent.takeHead p) f.payload
      else refuse (s.clearEvent.takeHead p) .notPermitted) = a)
    (hw : Kept X Y (s.clearEvent.takeHead p) b) (hb : a.state = b.withStore st) :
    Answered p (replyTo f a) s (s.serve p kind allowed work) ∧ DrivesOnly X Y s (s.serve p kind allowed work) ∧
    SweepsSame s (s.serve p kind allowed work) ∧ (s.serve p kind allowed work).store = st ∧
    (s.serve p kind allowed work).drives = a.state.drives ∧
    (s.serve p kind allowed work).arbiter = a.state.arbiter := by
  rw [hn.serve hk]
  have hport : ∀ q, a.state.port q = b.port q := fun q => by rw [hb]; rfl
  set effect : State → State := fun t => t.answer p f allowed work with he
  have ee : effect s.clearEvent = a.state.pushReply p (replyTo f a) := by
    simp only [he, State.answer, ha]
  have A := s.clearEvent_sweepOnly
  have B := SweepOnly.settleWaits (effect s.clearEvent)
  have C := State.clearEvent_sweepOnly (effect s.clearEvent).settleWaits
  have weak : ∀ {u v : State}, DrivesOnly (fun _ => False) (fun _ => False) u v → DrivesOnly X Y u v := fun k =>
    { k with
      waiting := fun d hd => (k.waiting d hd).imp_right False.elim
      others := fun d _ hw => k.others d id hw
      demand := fun d _ => k.demand d id }
  have port1 : ∀ q, (s.clearEvent.takeHead p).port q =
      if q = p then { s.clearEvent.port p with inbound := (s.clearEvent.port p).inbound.tail } else s.clearEvent.port q :=
    fun q => State.setPort_port s.clearEvent p q _
  have port2 : ∀ q, (effect s.clearEvent).port q =
      if q = p then { a.state.port p with replies := (a.state.port p).replies ++ [replyTo f a] } else a.state.port q := by
    intro q; rw [ee]; exact State.setPort_port _ _ _ _
  have D1 : DrivesOnly X Y s.clearEvent (s.clearEvent.takeHead p) := by
    constructor <;> first | rfl | (intro q; rw [port1]; split <;> (try subst_vars) <;> rfl) | (intros; rfl) | skip
    · intro q x hx; rw [port1]; split <;> (try subst_vars) <;> exact hx
    · exact fun _ h => .inl h
  have D2 : DrivesOnly X Y a.state (effect s.clearEvent) := by
    rw [ee]
    rw [ee] at port2
    constructor <;> first | rfl | (intro q; rw [port2]; split <;> (try subst_vars) <;> rfl) | (intros; rfl) | skip
    · intro q x hx; rw [port2]; split <;> (try subst_vars) <;> exact hx
    · exact fun _ h => .inl h
  have D3 : DrivesOnly X Y b a.state := by
    rw [hb]
    constructor <;> first | rfl | (intros; rfl) | skip
    · exact fun _ _ hx => hx
    · exact fun _ h => .inl h
  obtain ⟨-, e2, e3⟩ := State.settleWaits_spec (effect s.clearEvent)
  obtain ⟨e4, e5⟩ := State.settleWaits_next (effect s.clearEvent)
  have esw : (effect s.clearEvent).sweeps = s.sweeps := by rw [ee, hb]; exact hw.sweeps
  have Q := B.queues.trans C.queues
  have hs : ∀ c, (effect s.clearEvent).sweep c = s.sweep c := fun c => congrArg (fun w => Sweeps.get w c) esw
  refine ⟨⟨?_, ?_, ?_, ?_⟩, ?_, ⟨?_, ?_, ?_, ?_⟩, ?_, ?_, ?_⟩
  · rw [show (s.event effect).turn = (effect s.clearEvent).turn from Q.1, ee, hb]; exact hw.turn
  · rw [show ((s.event effect).port p).inbound = _ from (Q.2 p).1, port2, if_pos rfl]
    rw [hport, hw.port p, port1, if_pos rfl]
    exact congrArg List.tail (A.queues.2 p).1
  · rw [show ((s.event effect).port p).replies = _ from (Q.2 p).2, port2, if_pos rfl]
    rw [hport, hw.port p, port1, if_pos rfl]
    exact congrArg (· ++ [replyTo f a]) (A.queues.2 p).2
  · intro q hq
    have hp : (effect s.clearEvent).port q = a.state.port q := by rw [port2, if_neg hq]
    have hi : a.state.port q = { s.clearEvent.port q with
        notices := (a.state.port q).notices, fresh := (a.state.port q).fresh } := by
      have := hw.port q
      rw [← hport q] at this
      rwa [port1, if_neg hq] at this
    refine ⟨(Q.2 q).1.trans ?_, (Q.2 q).2.trans ?_⟩
    · rw [hp, hi]; exact (A.queues.2 q).1
    · rw [hp, hi]; exact (A.queues.2 q).2
  · exact (weak A.drivesOnly).trans (D1.trans (hw.drivesOnly.trans (D3.trans (D2.trans ((weak B.drivesOnly).trans
      (weak C.drivesOnly))))))
  · exact e2.trans (congrArg Sweeps.pointer esw)
  · exact fun c hc => (e3 c (by rw [hs]; exact hc)).trans (hs c)
  · exact (congrArg Sweeps.nextCompletion esw) ▸ e4
  · exact fun hw => (e5 (fun c => by rw [hs]; exact hw c)).trans (congrArg Sweeps.nextCompletion esw)
  · exact C.store.trans (B.store.trans (by rw [ee, hb]; rfl))
  · exact C.drives.trans (B.drives.trans (by rw [ee]; rfl))
  · exact C.slots.trans (B.slots.trans (by rw [ee]; rfl))

/-- What a service does when its work is one on drives: the reply, and the frame. -/
theorem State.ServesNext.serve_kept (hn : s.ServesNext p f) {kind : Byte} (hk : f.kind = kind) {allowed : Bool}
    {work : State → List Byte → Answer} {a : Answer}
    (ha : (if allowed then work (s.clearEvent.takeHead p) f.payload
      else refuse (s.clearEvent.takeHead p) .notPermitted) = a)
    (hw : Kept X Y (s.clearEvent.takeHead p) a.state) :
    Answered p (replyTo f a) s (s.serve p kind allowed work) ∧ DrivesOnly X Y s (s.serve p kind allowed work) ∧
    SweepsSame s (s.serve p kind allowed work) ∧ (s.serve p kind allowed work).store = s.store ∧
    (s.serve p kind allowed work).drives = a.state.drives ∧
    (s.serve p kind allowed work).arbiter = a.state.arbiter := by
  have h := hn.serve_stored hk ha hw (st := a.state.store) rfl
  exact ⟨h.1, h.2.1, h.2.2.1, h.2.2.2.1.trans hw.store, h.2.2.2.2⟩

/-! ### Saves -/

/-- What a lockout change asks of the store (10 R203). -/
theorem State.askSave_eq (s : State) : s.askSave = s.withStore (if s.store.save.isSome then
    { s.store with pendingSave := true }
    else { s.store with save := some { copy := s.currentImage, elapsed := 0 } }) := by
  unfold State.askSave
  split <;> rfl

/-! ### The end of a hold -/

/-- The inputs of a drive are taken in one order or the other, and the trip contact before the switches only where it
changed (log entry 55). -/
theorem State.takeInputs_cases (s : State) (d : Drive) :
    (s.takeInputs d = (s.takeTripLevel d).takeSwitches d ∧ (s.drive d).pins.tripPin ≠ (s.drive d).pins.tripOpen) ∨
    s.takeInputs d = (s.takeSwitches d).takeTripLevel d := by
  unfold State.takeInputs
  dsimp only
  split
  · rename_i h
    simp only [Bool.and_eq_true, bne_iff_ne] at h
    exact .inl ⟨rfl, h.1.1⟩
  · exact .inr rfl

/-! ### Expiries -/

theorem State.expiry_eq {due : Bool} (h : s.held = false) (hd : due = true) (effect : State → State) :
    s.expiry due effect = s.event effect := if_pos ⟨h, hd⟩

end Sys2Proof.Machine
end

