-- ==== Sys2Proof/Laws/Wire.lean ====
section
/-! SUPPORT. Numbers and drives sent in payloads are read back as sent. -/

namespace Sys2Proof.Machine

@[simp] theorem byte_toNat {n : Nat} (h : n < 256) : (BitVec.ofNat 8 n).toNat = n := by
  simp; omega

@[simp] theorem driveNumber_toNat (d : Drive) : (BitVec.ofNat 8 (driveNumber d)).toNat = driveNumber d :=
  byte_toNat (by unfold driveNumber; omega)

@[simp] theorem driveNumber_lt (d : Drive) : driveNumber d < 256 := by unfold driveNumber; omega

@[simp] theorem driveOf_driveNumber (d : Drive) : driveOf (driveNumber d) = some d := by
  unfold driveOf driveNumber
  rw [dif_pos (by omega)]
  rfl

/-- A number of two bytes is read back as sent. -/
@[simp] theorem num2_bytes {n : Nat} (h : n < 65536) : num2 (BitVec.ofNat 8 (n / 256)) (BitVec.ofNat 8 n) = n := by
  unfold num2
  simp
  omega

theorem byte2_eq (n : Nat) : byte2 n = [BitVec.ofNat 8 (n / 256), BitVec.ofNat 8 n] := rfl

theorem byte1_eq (n : Nat) : byte1 n = [BitVec.ofNat 8 n] := rfl

/-- A payload that names one drive. -/
@[simp] theorem readOne_drive (d : Drive) : readOne (byte1 (driveNumber d)) = some (driveNumber d) := by
  simp only [readOne, byte1, driveNumber_toNat]

end Sys2Proof.Machine
end

