-- ==== Sys2Proof/Tests/Slice0.lean ====
section
/-! SUPPORT. Tests: the well-formedness smoke test, values worked out by hand or in the manual's worked cases, and for each
statement with hypotheses the states and operands that meet them. -/

open Sys2Proof Sys2Proof.Machine

namespace Sys2Proof.Tests

/-! ### Well-formedness: an ill-formed term for each check -/

theorem test_wellFormed_long_payload :
    (Instr.requestArrival .climate 1 0 (List.replicate 121 0)).wellFormed = false ∧
    (Instr.requestArrival .climate 1 0 (List.replicate 120 0)).wellFormed = true := by decide +kernel

theorem test_wellFormed_repeated_drive :
    (Instr.saveCompletion [3, 3]).wellFormed = false ∧ (Instr.warmReset [0, 1, 0]).wellFormed = false ∧
    (Instr.resetHoldEnd [23, 23]).wellFormed = false ∧
    (Instr.coldReset (Vector.replicate 6 true) false [5, 5]).wellFormed = false ∧
    (Instr.warmReset [23, 0]).wellFormed = true := by decide

/-- spec/opcode_table.json gives no row any bits. -/
theorem test_no_word_spells_a_command : decodeTableWord 8 0 = none ∧ decodeTableWord 0 0 = none := by decide

/-! ### Values the manual works out -/

/-- The check value of 08 R187. -/
theorem test_crc_check_value :
    crc16 [0x31, 0x32, 0x33, 0x34, 0x35, 0x36, 0x37, 0x38, 0x39] = 0x29B1#16 := by decide +kernel

/-- The vent run of chapter 1: planned time, and the position at four moments. -/
theorem test_vent_run :
    let p := ventPlan (Setup.defaults .vent) .opening 350 700 10
    p.planned = 430 ∧ { p with timer := 5 }.position 1200 = 350 ∧ { p with timer := 200 }.position 1200 = 508 ∧
    { p with timer := 429 }.position 1200 = 699 ∧ { p with timer := 430 }.position 1200 = 700 ∧
    (ventPlan (Setup.defaults .vent) .opening 508 800 ({ p with timer := 200 }.lagLeft)).planned = 351 := by decide

/-- The end run of chapter 1. -/
theorem test_vent_end_run :
    let p := ventPlan (Setup.defaults .vent) .closing 300 0 10
    p.planned = 490 ∧ { p with timer := 370 }.position 1200 = 0 ∧ { p with timer := 490 }.position 1200 = 0 := by decide

/-- The valve train with lag of chapter 1: its third pulse, and the pulse that a lockout cuts. -/
theorem test_valve_train :
    let t : Train := { start := 400, aim := 450, owed := 90, done := 30, number := 3, length := 20, pulseOn := 20,
                       pulseOff := 100, elapsed := 12 }
    t.pulseLength 20 5 = 20 ∧ { t with done := 75 }.pulseLength 20 5 = 20 ∧ { t with done := 80 }.pulseLength 20 0 = 10 ∧
    t.position 1800 45 = 425 ∧ t.position 1800 75 = 442 ∧ t.position 1800 (t.served 5) = 421 := by decide

/-- The screen of chapter 1. -/
theorem test_screen_counts :
    let u := Setup.defaults .screen
    u.positionOf 1234 = 257 ∧ u.countOf 375 = 1800 ∧ u.positionOf 1803 = 376 ∧ u.overrunPulses = 480 := by decide

/-- The drive that loses REFERENCED by travel, chapter 1. -/
theorem test_travel_lowers_knowledge :
    (Book.grow { position := 680, knowledge := .referenced, travel := 4950 } 5000 60).knowledge = .estimated ∧
    (Book.grow { position := 680, knowledge := .referenced, travel := 4950 } 5000 50).knowledge = .referenced ∧
    (Book.grow { travel := 65500 } 5000 60).travel = 65535 := by decide

/-- The sides of chapter 3. -/
theorem test_circular_difference :
    circularDiff 250 20 = 130 ∧ circularDiff 20 290 = 90 ∧ circularDiff 30 290 = 100 ∧ circularDiff 250 290 = 40 := by
  decide

/-- The mast that falls silent, chapter 3: mean 62 and gust 96 give ceilings 466 and 975. -/
theorem test_side_ceilings :
    effectiveWind 62 96 = 72 ∧ sideCeiling 40 100 72 = 466 ∧ sideCeiling 70 150 72 = 975 := by decide

/-- The frost floors of chapter 3. -/
theorem test_frost_floors :
    frostFloorAt {} (some 30) = 0 ∧ frostFloorAt {} (some 10) = 46 ∧ frostFloorAt {} (some 0) = 92 ∧
    frostFloorAt {} (some (-35)) = 253 ∧ frostFloorAt {} (some (-50)) = 321 ∧ frostFloorAt {} (some (-100)) = 550 ∧
    frostFloorAt {} none = 550 := by decide

/-- The waits of 06 R131 double, and none is above 3600 s. -/
theorem test_retry_waits : retryWait 30 1 = 300 ∧ retryWait 30 4 = 2400 ∧ retryWait 600 8 = 36000 := by decide

/-! ### States -/

/-- What `State.Settled` asks, as one closed fact. -/
theorem settled {s : State} (h : s.granted = false ∧ (s.port .climate).fresh = 0 ∧ (s.port .heat).fresh = 0 ∧
    (s.port .panel).fresh = 0 ∧ s.waitOver .one = false ∧ s.waitOver .two = false) : s.Settled :=
  ⟨h.1, fun p => by cases p; exacts [h.2.1, h.2.2.1, h.2.2.2.1], fun c => by cases c; exacts [h.2.2.2.2.1, h.2.2.2.2.2]⟩

/-- What `State.QueueOk` asks, as a check. -/
def queueCheck (s : State) : Bool :=
  decide (s.waiting.Nodup ∧ (∀ d, d ∈ s.waiting ↔ (s.drive d).motion.state = .queued) ∧
    s.arbiter.queue.Pairwise (fun a b => a.before b = true) ∧
    (∀ e, e ∈ s.arbiter.queue → e.arrival < s.arbiter.nextArrival) ∧ (s.arbiter.queue.map Entry.arrival).Nodup ∧
    (∀ d, d ∈ s.waiting → (s.setup d).kind = .vent ∨ (s.setup d).kind = .screen) ∧ s.arbiter.holders.Nodup ∧
    (∀ d, d ∈ s.arbiter.holders ↔ (s.drive d).motion.state = .running ∧ (s.setup d).kind ≠ .valve) ∧
    (∀ d, (s.drive d).motion.train.isSome = true → (s.setup d).kind = .valve ∧
      ((s.drive d).motion.state = .running ∨ (s.drive d).motion.state = .pausing ∧
        (s.drive d).motion.pause.any (fun p => decide (p.kind = .interPulse)) = true)))

theorem queueOk {s : State} (h : queueCheck s = true) : s.QueueOk := by
  obtain ⟨h1, h2, h3, h4, h5, h6, h7, h8, h9⟩ := of_decide_eq_true h
  refine ⟨h1, h2, h3, h4, h5, h6, h7, h8, fun d hd => ?_⟩
  obtain ⟨hk, hr | ⟨hp, hq⟩⟩ := h9 d hd
  · exact ⟨hk, .inl hr⟩
  · refine ⟨hk, .inr ⟨hp, ?_⟩⟩
    cases hz : (s.drive d).motion.pause with
    | none => simp [hz] at hq
    | some q =>
      obtain ⟨k, n⟩ := q
      simp [hz] at hq
      exact ⟨n, by rw [hq]⟩

/-- What `Demand.Resolved` asks, as a check. -/
def resolvedCheck (m : Demand) (fallback : Option Nat) : Bool :=
  decide (m.governing = m.governingNow ∧ m.floor = m.envFloor ∧ m.ceiling = m.ceilingNow ∧
    m.conflict = decide (m.ceiling < m.floor) ∧
    (m.lockout = false → m.floor ≤ m.ceiling → m.floor ≤ m.target ∧ m.target ≤ m.ceiling) ∧
    (m.lockout = false → m.ceiling < m.floor → m.target = m.floor) ∧
    (m.floor ≤ m.ceiling →
      (m.governingValue fallback).all (fun v => decide (m.target = clampNat m.floor m.ceiling v)) = true))

theorem resolved {s : State} (h : ∀ d, resolvedCheck (s.drive d).demand (s.setup d).fallback = true) : s.Resolved := by
  intro d
  obtain ⟨h1, h2, h3, h4, h5, h6, h7⟩ := of_decide_eq_true (h d)
  refine ⟨h1, h2, ?_, h4, h5, h6, fun hf v hv => ?_⟩
  · rw [h3]; unfold Demand.ceilingNow; split <;> simp_all
  · simpa [hv] using h7 hf
/-- A request frame with tag 7. -/
def req (k : Byte) (payload : List Byte) : Frame := { kind := k, tag := 7, payload := payload }

/-- A state with one request waiting at a port. -/
def asked (s : State) (p : Port) (f : Frame) : State := s.setPort p { s.port p with inbound := [f] }

/-- After reset, drive 1 a VENT, drive 13 a SCREEN and drive 17 a VALVE at its fallback target, all at rest. -/
def world : State :=
  (((State.reset.withSetup 0 (Setup.defaults .vent)).withSetup 12 (Setup.defaults .screen)).withSetup 16
    (Setup.defaults .valve)).withDemand 16 { target := 300 }

/-- `world` with the restart hold over. -/
def ready : State := world.withArbiter { world.arbiter with restart := none }

/-- `s` with the drives of `l` holding run slots. -/
def holding (s : State) (l : List Drive) : State := s.withArbiter { s.arbiter with holders := l }

/-- Drive 1 in a run toward 1000, at the start of its lag. -/
def venting : State :=
  (holding ready [0]).withMotion 0
    { state := .running, direction := .opening, run := some (.vent (ventPlan (Setup.defaults .vent) .opening 0 1000 10)) }

/-- Drive 1 in a run toward 0. -/
def closing : State :=
  (holding ready [0]).withMotion 0
    { state := .running, run := some (.vent (ventPlan (Setup.defaults .vent) .closing 500 0 10)) }

/-- Drive 13 in a run toward position 500. -/
def screening : State :=
  (holding ready [12]).withMotion 12
    { state := .running, direction := .opening, run := some (.screen (screenPlan (Setup.defaults .screen) 500)) }

/-- The train of drive 17 toward 300, its first pulse over. -/
def firstPulse : Train :=
  { start := 0, aim := 300, owed := 360, done := 0, number := 1, length := 20, pulseOn := 20, pulseOff := 100,
    elapsed := 20 }

/-- Drive 17 in a train. -/
def pulsing (w : Train) : State :=
  ready.withMotion 16 { state := .running, direction := .opening, train := some w }

/-- Drive 17 at the end of the pause between two pulses. -/
def between : State :=
  ready.withMotion 16 { state := .pausing, direction := .opening, train := some firstPulse,
                        pause := some { kind := .interPulse, left := 0 } }

/-- Drive 1 waiting in the start queue to open. -/
def queueing : State :=
  (ready.withArbiter { ready.arbiter with
    queue := [{ drive := 0, direction := .opening, protective := false, arrival := 0 }], nextArrival := 1 }).withMotion 0
    { state := .queued, direction := .opening }

/-- `s` with the trip contact of a drive open. -/
def tripOpen (s : State) (d : Drive) : State := s.withPins d { tripPin := true, tripOpen := true }

/-- Drive 1 of `world` in a motion state, with nothing else in hand. -/
def vent (m : MotionState) : State := world.withMotion 0 { state := m }

/-- Drive 1 of `world` under lockout. -/
def locked : State :=
  (vent .locked).withDemand 0 { lockout := true, governing := .lockout }

/-- A sweep of one kind with context 1 ready to step its only member, drive 1. -/
def sweeping (k : SweepKind) (w : Bool) : State :=
  world.setSweep .one { state := .stepping, kind := k, members := [0], wait := w, nextIndex := some 1 }

/-- `world` with a save in flight. -/
def saving : State := world.beginSave

/-! ### One step -/

/-- The outcome of a command, tested. -/
def after (o : Host.Outcome State Fault Refusal) (f : State → Bool) : Bool :=
  match o with
  | .next t => f t
  | .fault _ => false
  | .refused _ => false

/-- A demand on a vent at rest queues it behind the restart hold; the reply is kind 81h, tag 7, DONE, target, CLIMATE. -/
theorem test_set_demand_queues :
    after (exec (.setDemand .climate) (asked world .climate (req 1 [1, 0x01, 0xF4]))) (fun t =>
      (t.drive 0).demand.target == 500 && (t.drive 0).motion.state == .queued &&
      (t.port .climate).replies == [{ kind := 0x81, tag := 7, payload := [0, 0x01, 0xF4, 2] }]) = true := by decide +kernel

/-- A BYTE_ARRIVAL that completes a frame queues the request. -/
theorem test_last_byte_completes :
    after (byteByByte .panel world (req 0x0B []).bytes) (fun t => (t.port .panel).inbound == [req 0x0B []]) = true := by
  decide +kernel

/-- A lockout in a run drops the output, frees the slot and begins a save with the drive in its lockout set. -/
theorem test_lockout_stops_run :
    after (exec (.lockoutOn .panel) (asked venting .panel (req 4 [1]))) (fun t =>
      (t.drive 0).motion.state == .locked && !t.outputOn 0 .opening && t.arbiter.holders.isEmpty &&
      t.store.save.any (fun v => v.copy.lockouts == [0])) = true := by decide

/-- The closed switch during a run away from it is WRONG_END. -/
theorem test_wrong_end :
    after (exec (.switchActive 0 .closed) venting) (fun t =>
      (t.drive 0).motion.state == .faulted && (t.drive 0).motion.cause == some .wrongEnd &&
      t.faults.summary == { kind := some (.ofDrive .wrongEnd), drive := some 0 }) = true := by decide

/-- A trip takes the first retry wait of 30 s. -/
theorem test_trip_waits :
    after (exec (.tripContactActive 12) screening) (fun t =>
      (t.drive 12).motion.state == .retryWait && (t.drive 12).motion.retryLeft == some 300 &&
      (t.drive 12).faults.tripCount == 1) = true := by decide

/-- A SCAN that finds its member passes its place: the only one, so that no place is next (07 R152, R159). -/
theorem test_scan_passes_found_place :
    after (exec (.scanStep .one) (sweeping .scan false |>.setSweep .one { (sweeping .scan false).sweep .one with
      condition := .notReferenced })) (fun t =>
      (t.sweep .one).markers.found && (t.sweep .one).foundPlace == some 1 && (t.sweep .one).nextIndex == none) = true := by
  decide

/-- A live demand whose timer stands at its end shows 1 s (02 R28, R39). -/
theorem test_live_demand_shows_a_second :
    ((world.withDemand 0 { panel := some { value := 5, left := 0 } }).driveStatus 0).drop 24 = [1, 0, 5, 0, 1] := by decide

/-- A write that makes a VENT at rest a SCREEN leaves it UNKNOWN at 0, where it seeks its closed end: it waits behind the
restart hold to close (01 R5, 04 R84, R86, R107). -/
theorem test_kind_change_decides :
    after (exec (.writeDriveSetup .panel) (asked (vent .stopped) .panel (req 0x13 [1, 1, 0, 1]))) (fun t =>
      (t.setup 0).kind == .screen && (t.setup 0).fallback == none && (t.drive 0).motion.state == .queued &&
      (t.drive 0).motion.purpose == .home && (t.drive 0).motion.direction == .closing) = true := by decide

/-- A head that may be granted waits for a grant of its own: the demand of a VALVE is no event at the arbiter (05 R118,
R122, R125). -/
theorem test_valve_demand_grants_no_head :
    queueing.canGrant = true ∧
    after (exec (.setDemand .panel) (asked queueing .panel (req 1 [17, 1, 0xF4]))) (fun t =>
      (t.drive 16).motion.state == .running && (t.drive 0).motion.state == .queued &&
      t.arbiter == queueing.arbiter) = true := by decide

/-- A tenth without a byte leaves a line quiet, in the hold of a reset too (08 R183). -/
theorem test_line_falls_quiet_in_hold :
    let s := { world with held := true }.setPort .heat { quiet := false }
    (s.port .heat).quiet = false ∧ (s.tick.port .heat).quiet = true := by decide

/-- A group write with a repeated member is BAD_VALUE. -/
theorem test_group_repeats :
    after (exec (.writeGroup .climate) (asked world .climate (req 0x14 [3, 1, 65, 2, 4, 4]))) (fun t =>
      (t.port .climate).replies == [{ kind := 0x94, tag := 7, payload := [3] }]) = true := by decide

/-! ### What meets the hypotheses of each statement -/

theorem meets_settled : world.Settled ∧ ready.Settled := ⟨settled (by decide), settled (by decide)⟩

theorem meets_queueOk : world.QueueOk ∧ venting.QueueOk ∧ screening.QueueOk ∧ (pulsing firstPulse).QueueOk ∧ between.QueueOk ∧
    queueing.QueueOk :=
  ⟨queueOk (by decide), queueOk (by decide), queueOk (by decide), queueOk (by decide), queueOk (by decide),
   queueOk (by decide)⟩

theorem meets_StepRunsFrontCommand : { world with pending := [Instr.grant] }.pending = .grant :: [] := rfl

theorem meets_EmptyQueueRunsClock :
    world.pending = [] ∧ world.due = none ∧ { venting with held := true }.held = true ∧ venting.held = false ∧
    (venting.drive 0).motion.state = .running ∧ (asked world .panel (req 0x0B [])).pending = [] ∧
    (asked world .panel (req 0x0B [])).due = some (.readEnvelope .panel) := by decide

/-- The request arbiter's choices (08 R173, 07 R155): the port the pointer names before another, the next in the cycle where
the first has no request, the third where the second's reply queue is full, none where that one alone waits, and then no
step; the context the alternation pointer names, the other one, and none. -/
theorem meets_ArbiterCases :
    let f := req 0x0B []
    let full (s : State) := s.setPort .panel { inbound := [f], replies := List.replicate 4 f }
    let two := (sweeping .set false).setSweep .two ((sweeping .set false).sweep .one)
    let one := sweeping .set false
    (asked (asked world .climate f) .panel f).nextServed = some .climate ∧
    (asked (asked { world with turn := .heat } .climate f) .panel f).nextServed = some .panel ∧
    (full (asked { world with turn := .heat } .climate f)).nextServed = some .climate ∧
    (full { world with turn := .panel }).nextServed = none ∧ (full one).nextStepped = none ∧
    two.nextStepped = some .one ∧ ({ two with sweeps := { two.sweeps with pointer := .two } } : State).nextStepped = some .two ∧
    ({ one with sweeps := { one.sweeps with pointer := .two } } : State).nextStepped = some .one ∧ world.nextStepped = none ∧
    one.due = some (.setStep .one) ∧ one.held = false ∧ one.envelope.pushes = [] := by decide

theorem meets_StepKeepsBounds : world.Safe ∧ step world = .next world.tick := by
  refine ⟨⟨fun p => ?_, ?_, by decide, ⟨fun c n h => ?_, fun n h => ?_⟩, fun _ => rfl⟩, rfl⟩
  · unfold MasterPort.QueuesOk; cases p <;> decide
  · unfold State.SlotsOk; decide
  · cases c <;> cases h
  · cases h

/-- Two results, the sweep of context 2 ended first (07 R154). -/
theorem meets_SweepsOrdered :
    Sweeps.Ordered { one := { completion := some 4 }, two := { completion := some 2 }, nextCompletion := 5 } := by
  constructor
  · intro c n h; cases c <;> cases h <;> decide
  · intro n h; cases h; decide

theorem meets_StepKeepsSettled : world.Settled ∧ step world = .next world.tick := ⟨settled (by decide), rfl⟩

theorem meets_StepKeepsResolved : world.Resolved ∧ step world = .next world.tick := ⟨resolved (by decide), rfl⟩

theorem meets_StepKeepsQueue : queueing.QueueOk ∧ ∃ t, step queueing = .next t := ⟨queueOk (by decide), _, rfl⟩

theorem meets_StepKeepsLockoutSafe :
    locked.Resolved ∧ locked.QueueOk ∧ locked.LockoutOk ∧ (∃ t, step locked = .next t) ∧
    (locked.drive 0).demand.lockout = true :=
  ⟨resolved (by decide), queueOk (by decide), by unfold State.LockoutOk; decide, ⟨_, rfl⟩, rfl⟩

/-- What `Settings.InRange` asks, as a check. -/
def settingsCheck (x : Settings) : Bool :=
  decide ((∀ d : Drive, x.setups[d].fallback.all (fun v => decide (v ≤ 1000)) = true) ∧ x.compartment.rainCeiling ≤ 1000 ∧
    x.compartment.snowValveFloor ≤ 1000 ∧ x.compartment.frostMaxFloor ≤ 1000 ∧ x.compartment.staleVentCeiling ≤ 1000 ∧
    x.compartment.frostFull < x.compartment.frostStart)

theorem settingsOk {x : Settings} (h : settingsCheck x = true) : x.InRange := by
  obtain ⟨h1, h2, h3, h4, h5, h6⟩ := of_decide_eq_true h
  refine ⟨fun d v hv => ?_, h2, h3, h4, h5, h6⟩
  have := h1 d
  rw [hv] at this
  exact of_decide_eq_true this

/-- After reset with drive 1 a VENT. -/
def small : State := State.reset.withSetup 0 (Setup.defaults .vent)

theorem meets_StepKeepsRanges : small.InRange ∧ ∃ t, step small = .next t := by
  refine ⟨⟨settingsOk (by decide), settingsOk (by decide), nofun, fun d => ?_, fun x => ?_, fun x v h => ?_,
    by decide, nofun⟩, _, rfl⟩
  rotate_left
  · cases x <;> decide
  · cases x <;> nomatch h
  have hd : small.drive d = {} := by revert d; decide
  have hk : (small.setup d).kind ≠ .screen := by revert d; decide
  rw [hd]
  exact ⟨by decide, by decide, by rw [if_neg hk], by decide, by decide, by decide, nofun, nofun, nofun, nofun, nofun, nofun, nofun⟩

theorem meets_OutputsNeverTogether :
    venting.held = false ∧ (venting.drive 0).motion.state = .running ∧
    (world.drive 0).motion.state ≠ .running ∧ { world with held := true }.held = true ∧
    (locked.drive 0).motion.state = .locked := by decide

theorem meets_ReceiverReadsEveryFrame :
    (req 1 []).payload.length ≤ 120 ∧ (req 1 (List.replicate 120 0)).payload.length ≤ 120 ∧
    byte2 (crc16 (req 1 []).body).toNat ≠ [0, 0] ∧ 0xA5#8 ∉ [0xA4#8, 0x5A#8] ∧ 120 < (121#8).toNat := by decide +kernel

theorem meets_SetupFieldsReadBack :
    Setup.fieldOk .vent 2 50 = true ∧ Setup.fieldOk .valve 15 16 = true ∧ Setup.fieldOk .screen 7 65535 = true ∧
    Compartment.fieldOk 10 (-400) = true ∧ Compartment.fieldOk 19 50000 = true := by decide

/-- The ranges at their ends, and writes that pass and fail them: a change of kind with notice_interval in pulses, pulse_on
equal to start_lag, a kind of 4, and crossed frost temperatures. -/
theorem meets_SetupWrites :
    driveRange .valve 15 16 ∧ ¬ driveRange .valve 15 17 ∧ driveRange .unused 15 0 ∧ ¬ driveRange .screen 15 9 ∧
    driveRange .vent 7 359 ∧ ¬ driveRange .vent 7 360 ∧ driveRange .vent 7 65535 ∧ driveRange .valve 16 65535 ∧
    ¬ driveRange .vent 19 0 ∧ compartmentRange 10 (-400) ∧ ¬ compartmentRange 11 501 ∧ ¬ compartmentRange 16 255 ∧
    ([(1, 2), (15, 4)].map Prod.fst).Nodup ∧ (1, Kind.valve.code) ∈ [(1, 2), (15, 4)] ∧
    (Setup.defaults .vent).writeOk [(1, 2), (15, 4)] = true ∧ (Setup.defaults .vent).writeOk [(15, 4)] = false ∧
    (Setup.defaults .valve).writeOk [(4, 20)] = false ∧ (Setup.defaults .valve).writeOk [(4, 19)] = true ∧
    (∃ i ∈ [(1, 4)], i.1 = 1 ∧ 3 < i.2) ∧ world.comp.writeOk [(10, -101)] = false := by
  unfold driveRange compartmentRange
  refine ⟨?_, ?_, ?_, ?_, ?_, ?_, ?_, ?_, ?_, ?_, ?_, ?_, ?_, ?_, ?_, ?_, ?_, ?_, ?_, ?_⟩ <;> decide

theorem meets_SetDemandPlacesEntry :
    Port.climate ≠ .heat ∧ 65535 < 65536 ∧
    (asked world .climate (req 1 (byte1 1 ++ byte2 65535 ++ []))).ServesNext .climate
      (req 1 (byte1 1 ++ byte2 65535 ++ [])) ∧
    (asked world .panel (req 1 (byte1 17 ++ byte2 0 ++ byte2 241))).ServesNext .panel
      (req 1 (byte1 17 ++ byte2 0 ++ byte2 241)) ∧
    (world.setup 0).kind ≠ .unused ∧ (world.setup 16).kind ≠ .unused ∧ (world.drive 0).motion.state ≠ .absent ∧
    (world.drive 16).motion.state ≠ .absent := by unfold State.ServesNext; decide

/-- What a SET_DEMAND of a value for drive `n` leaves, tested. -/
def aimed (s : State) (n v : Nat) (f : State → Bool) : Bool :=
  after (exec (.setDemand .panel) (asked s .panel (req 1 (byte1 n ++ byte2 v)))) f

/-- Drive 1 REFERENCED at 500 in a run from 0 to 700, its lag served. -/
def halfway : State :=
  (venting.withBook 0 { knowledge := .referenced }).withMotion 0
    { state := .running, direction := .opening,
      run := some (.vent { ventPlan (Setup.defaults .vent) .opening 0 700 10 with timer := 610 }) }

/-- Drive 1 REFERENCED at 500, waiting to open behind the restart hold. -/
def waitsAt500 : State :=
  (queueing.withArbiter { queueing.arbiter with restart := some 9 }).withBook 0 { position := 500, knowledge := .referenced }

/-- A new target: for a drive at rest, behind the restart hold and without it; for one QUEUED to open from 500, which then
has nothing to seek, keeps its entry, and turns; for a run, the same aim, beyond, the end, within deadband and behind; for
a train, beyond, within deadband and behind; for a homing; and for FAULTED. The values are worked out by hand from 01 R6,
R7, R11 and 04 R88, R91, R99, R100. -/
theorem meets_Retargeted :
    let still (s : State) := s.withBook 0 { knowledge := .referenced }
    let train := (pulsing firstPulse).withBook 16 { knowledge := .referenced }
    waitsAt500.QueueOk ∧ halfway.QueueOk ∧ train.QueueOk ∧
    aimed (still world) 1 500 (fun t => (t.drive 0).motion.state == .queued) = true ∧
    aimed (still ready) 1 500 (fun t => (t.drive 0).motion.state == .running) = true ∧
    aimed waitsAt500 1 505 (fun t => (t.drive 0).motion.state == .stopped && t.arbiter.queue.isEmpty) = true ∧
    aimed waitsAt500 1 900 (fun t => t.arbiter.queue.any (fun e => e.arrival == 0 && e.direction == .opening)) = true ∧
    aimed waitsAt500 1 100 (fun t => t.arbiter.queue.any (fun e => e.arrival == 1 && e.direction == .closing)) = true ∧
    aimed halfway 1 700 (fun t => (t.drive 0).motion == (halfway.drive 0).motion) = true ∧
    aimed halfway 1 800 (fun t => (t.drive 0).motion.run ==
      some (.vent { start := 500, aim := 800, lag := 0, planned := 360, timer := 0 })) = true ∧
    aimed halfway 1 1000 (fun t => (t.drive 0).motion.run ==
      some (.vent { start := 500, aim := 1000, lag := 0, planned := 720, timer := 0 })) = true ∧
    aimed halfway 1 505 (fun t => (t.drive 0).motion.pause == some { kind := .settle, left := 20 } &&
      (t.drive 0).book.position == 500 && (t.drive 0).book.travel == 500) = true ∧
    aimed halfway 1 100 (fun t => (t.drive 0).motion.pause == some { kind := .reversal, left := 20 }) = true ∧
    aimed train 17 400 (fun t => (t.drive 16).motion.train ==
      some { firstPulse with aim := 400, owed := 480 }) = true ∧
    aimed train 17 15 (fun t => (t.drive 16).motion.pause == some { kind := .settle, left := 20 } &&
      (t.drive 16).book.position == 17) = true ∧
    aimed train 17 0 (fun t => (t.drive 16).motion.pause == some { kind := .reversal, left := 100 }) = true ∧
    aimed (halfway.withMotion 0 { (halfway.drive 0).motion with purpose := .home }) 1 300 (fun t =>
      (t.drive 0).motion == { (halfway.drive 0).motion with purpose := .home }) = true ∧
    aimed ((vent .faulted).withMotion 0 { state := .faulted, cause := some .tripLimit }) 1 300 (fun t =>
      (t.drive 0).motion.state == .faulted) = true := by
  refine ⟨queueOk (by decide), queueOk (by decide), queueOk (by decide), ?_, ?_, ?_, ?_, ?_, ?_, ?_, ?_, ?_, ?_, ?_, ?_, ?_, ?_,
    ?_⟩ <;> decide +kernel

theorem meets_ReleaseDemandRemovesEntry :
    let present := world.withDemand 0 { climate := some { value := 0, left := 1 }, governing := .climate }
    (asked present .climate (req 2 (byte1 1))).ServesNext .climate (req 2 (byte1 1)) ∧
    (present.drive 0).demand.climate.isSome = true ∧
    (asked world .panel (req 2 (byte1 1))).ServesNext .panel (req 2 (byte1 1)) ∧
    (world.drive 0).demand.panel = none ∧ (asked world .panel (req 2 (byte1 1))).Settled := by
  refine ⟨?_, ?_, ?_, ?_, settled (by decide)⟩ <;> first | decide | (unfold State.ServesNext; decide)

theorem meets_JogMovesPanelEntry :
    (asked world .panel (req 3 (byte1 1 ++ byte1 0))).ServesNext .panel (req 3 (byte1 1 ++ byte1 0)) ∧
    (asked world .panel (req 3 (byte1 17 ++ byte1 1))).ServesNext .panel (req 3 (byte1 17 ++ byte1 1)) ∧
    (world.drive 0).demand.lockout = false ∧ (world.drive 16).demand.lockout = false ∧
    (world.setup 0).kind ≠ .unused ∧ (world.drive 0).motion.state ≠ .absent := by
  unfold State.ServesNext; decide

theorem meets_PanelDisplacesClimate :
    let s := world.withDemand 0 { climate := some { value := 0, left := 1 }, governing := .climate }
    (asked s .panel (req 1 (byte1 1 ++ byte2 1000))).ServesNext .panel (req 1 (byte1 1 ++ byte2 1000)) ∧
    (s.setup 0).kind ≠ .unused ∧ (s.drive 0).motion.state ≠ .absent ∧ (s.drive 0).demand.governing = .climate ∧
    (s.drive 0).demand.climate.isSome = true ∧ (s.drive 0).demand.lockout = false := by
  unfold State.ServesNext; decide

theorem meets_LockoutOnStopsDrive :
    (asked venting .panel (req 4 (byte1 1))).ServesNext .panel (req 4 (byte1 1)) ∧
    (venting.setup 0).kind ≠ .unused ∧ (venting.drive 0).demand.lockout = false ∧
    (asked venting .panel (req 4 (byte1 1))).Resolved ∧ (asked venting .panel (req 4 (byte1 1))).QueueOk ∧
    (venting.drive 0).motion.state = .running ∧
    (asked locked .panel (req 4 (byte1 1))).ServesNext .panel (req 4 (byte1 1)) ∧
    (locked.drive 0).demand.lockout = true ∧ (asked locked .panel (req 4 (byte1 1))).Settled := by
  refine ⟨?_, ?_, ?_, resolved (by decide), queueOk (by decide), ?_, ?_, ?_, settled (by decide)⟩ <;>
    first | decide | (unfold State.ServesNext; decide)

/-- A lockout over a PANEL entry and over a CLIMATE entry that govern, the other one absent (02 R51, 09 R196). -/
theorem meets_LockoutDisplaces :
    let h : Held := { value := 500, left := 9 }
    let panel := (world.withDemand 0 { panel := some h, target := 500, governing := .panel })
    let climate := (world.withDemand 0 { climate := some h, target := 500, governing := .climate })
    (asked panel .panel (req 4 (byte1 1))).Resolved ∧ (asked climate .panel (req 4 (byte1 1))).Resolved ∧
    after (exec (.lockoutOn .panel) (asked panel .panel (req 4 (byte1 1)))) (fun t =>
      (t.port .panel).notices == [.displaced 0] && (t.port .climate).notices == [] &&
      (t.drive 0).demand.displacedPanel == some .lockout) = true ∧
    after (exec (.lockoutOn .panel) (asked climate .panel (req 4 (byte1 1)))) (fun t =>
      (t.port .climate).notices == [.displaced 0] && (t.port .panel).notices == []) = true := by
  refine ⟨resolved (by decide), resolved (by decide), ?_, ?_⟩ <;> decide

/-- Drive 1 at rest under lockout; and with a demand of 500 beneath it. -/
theorem meets_LockoutOffReleasesDrive :
    let still := locked.withMotion 0 { state := .locked }
    let deep := (locked.withDemand 0 { lockout := true, governing := .lockout, panel := some { value := 500, left := 9 } })
    (asked still .panel (req 5 (byte1 1))).ServesNext .panel (req 5 (byte1 1)) ∧
    (asked deep .panel (req 5 (byte1 1))).ServesNext .panel (req 5 (byte1 1)) ∧
    (asked still .panel (req 5 (byte1 1))).Resolved ∧ (asked still .panel (req 5 (byte1 1))).QueueOk ∧
    (asked deep .panel (req 5 (byte1 1))).Resolved ∧ (asked deep .panel (req 5 (byte1 1))).QueueOk ∧
    deep.arbiter.restart.isSome = true ∧ (deep.drive 0).motion.state = .locked ∧
    after (exec (.lockoutOff .panel) (asked deep .panel (req 5 (byte1 1)))) (fun t =>
      seeks (deep.setup 0) { deep.drive 0 with demand := (t.drive 0).demand }) = true ∧
    after (exec (.lockoutOff .panel) (asked (still.withBook 0 { knowledge := .referenced }) .panel (req 5 (byte1 1))))
      (fun t => !seeks (still.setup 0) { still.drive 0 with book := { knowledge := .referenced },
                                                            demand := (t.drive 0).demand }) = true ∧
    (asked world .panel (req 5 (byte1 1))).ServesNext .panel (req 5 (byte1 1)) ∧
    (world.drive 0).demand.lockout = false ∧ (asked world .panel (req 5 (byte1 1))).Settled := by
  refine ⟨?_, ?_, resolved (by decide), queueOk (by decide), resolved (by decide), queueOk (by decide), ?_, ?_, ?_, ?_, ?_,
    ?_, settled (by decide)⟩ <;> first | decide | (unfold State.ServesNext; decide)

theorem meets_SetCapCapsValves :
    (asked world .heat (req 6 (byte1 0 ++ byte2 0 ++ []))).ServesNext .heat (req 6 (byte1 0 ++ byte2 0 ++ [])) ∧
    (asked world .heat (req 6 (byte1 12 ++ byte2 1001 ++ (byte2 1 ++ byte2 6464)))).ServesNext .heat
      (req 6 (byte1 12 ++ byte2 1001 ++ (byte2 1 ++ byte2 6464))) ∧
    (asked world .heat (req 6 (byte1 13 ++ byte2 0 ++ []))).ServesNext .heat (req 6 (byte1 13 ++ byte2 0 ++ [])) ∧
    16 ∈ world.groupMembers 0 ∧ (world.setup 16).kind = .valve ∧
    (asked world .heat (req 6 (byte1 0 ++ byte2 0 ++ []))).Resolved ∧
    (asked world .heat (req 6 (byte1 13 ++ byte2 0 ++ []))).Settled := by
  refine ⟨?_, ?_, ?_, ?_, ?_, resolved (by decide), settled (by decide)⟩ <;>
    first | decide | (unfold State.ServesNext; decide)

theorem meets_ReleaseCapRemovesCaps :
    let s := world.withDemand 16 { target := 300, cap := some { value := 400, left := 1 }, ceiling := 400 }
    (asked s .heat (req 7 (byte1 0))).ServesNext .heat (req 7 (byte1 0)) ∧ 16 ∈ s.groupMembers 0 ∧
    (s.drive 16).demand.cap.isSome = true ∧ (∀ k, (s.drive k).demand.cap.isSome = true → (s.setup k).kind = .valve) ∧
    (asked s .heat (req 7 (byte1 13))).ServesNext .heat (req 7 (byte1 13)) ∧
    (asked s .heat (req 7 (byte1 13))).Settled := by
  refine ⟨?_, ?_, ?_, ?_, ?_, settled (by decide)⟩ <;> first | decide | (unfold State.ServesNext; decide)

/-- One state for each clause of `Homed`: a run toward 1000, a run toward 0, a screen's run toward 0, a train toward 0, a
drive at rest, and one in RETRY_WAIT. -/
theorem meets_HomeActsByState :
    let ask (s : State) (n : Nat) := asked s .panel (req 8 (byte1 n))
    let screen0 := screening.withMotion 12
      { state := .running, run := some (.screen (screenPlan (Setup.defaults .screen) 0)) }
    let train0 := ready.withMotion 16 { state := .running, train := some { firstPulse with start := 300, aim := 0 } }
    let waits := (vent .retryWait).withMotion 0 { state := .retryWait, retryLeft := some 5 }
    (ask venting 1).ServesNext .panel (req 8 (byte1 1)) ∧ (ask venting 1).QueueOk ∧
    (ask closing 1).ServesNext .panel (req 8 (byte1 1)) ∧ (ask closing 1).QueueOk ∧
    (ask screen0 13).ServesNext .panel (req 8 (byte1 13)) ∧ (ask screen0 13).QueueOk ∧
    (ask train0 17).ServesNext .panel (req 8 (byte1 17)) ∧ (ask train0 17).QueueOk ∧
    (ask world 1).ServesNext .panel (req 8 (byte1 1)) ∧ (ask world 1).QueueOk ∧
    (ask waits 1).ServesNext .panel (req 8 (byte1 1)) ∧ (ask waits 1).QueueOk ∧
    (closing.drive 0).motion.purpose = .move ∧ world.arbiter.restart.isSome = true ∧
    (venting.drive 0).demand.lockout = false ∧ (venting.setup 0).kind ≠ .unused := by
  refine ⟨?_, queueOk (by decide), ?_, queueOk (by decide), ?_, queueOk (by decide), ?_, queueOk (by decide), ?_,
    queueOk (by decide), ?_, queueOk (by decide), ?_, ?_, ?_, ?_⟩ <;> first | decide | (unfold State.ServesNext; decide)

/-- The rows of 04 R102 beside those above: a STOPPED drive granted at once, a STOPPED valve outside the restart hold and in
it, an entry to close that is kept and one to open that is replaced, and a train toward 1000 in its pause, which ends with
DRIVE_STATE marked though the drive stays PAUSING. -/
theorem test_home_rows :
    let home (s : State) (n : Nat) (f : State → Bool) := after (exec (.home .panel) (asked s .panel (req 8 (byte1 n)))) f
    let shut := (waitsAt500.withArbiter { waitsAt500.arbiter with
      queue := [{ drive := 0, direction := .closing, protective := false, arrival := 0 }] }).withMotion 0 { state := .queued }
    home ready 1 (fun t => (t.drive 0).motion.run ==
      some (.vent { start := 0, aim := 0, lag := 10, planned := 1330, timer := 0 })) = true ∧
    home ready 17 (fun t => (t.drive 16).motion.state == .running && (t.drive 16).motion.purpose == .home) = true ∧
    home world 17 (fun t => (t.drive 16).motion.state == .stopped && (t.drive 16).motion.homeMarker) = true ∧
    home shut 1 (fun t => t.arbiter.queue.map Entry.arrival == [0] && (t.drive 0).motion.purpose == .home) = true ∧
    home waitsAt500 1 (fun t => t.arbiter.queue.map Entry.arrival == [1] && (t.drive 0).motion.direction == .closing) = true ∧
    home ((between.withMotion 16 { (between.drive 16).motion with pause := some { kind := .interPulse, left := 40 } }).withSubs
      16 ⟨false, false, true⟩) 17 (fun t => (t.drive 16).motion.pause == some { kind := .reversal, left := 40 } &&
        (t.port .panel).notices == [.driveState 16]) = true := by
  refine ⟨?_, ?_, ?_, ?_, ?_, ?_⟩ <;> decide +kernel

/-- Drive 1 FAULTED: with both switches active; under lockout; at its target; and away from it. -/
theorem meets_ResetDriveEndsFaulted :
    let ask (s : State) := asked s .panel (req 9 (byte1 1))
    let fault (s : State) := s.withMotion 0 { state := .faulted, cause := some .tripLimit, retryCount := 5 }
    let both := (fault world).withPins 0 { closedPin := true, openPin := true, closedTaken := true, openTaken := true }
    let under := fault locked
    let home := (fault world).withBook 0 { knowledge := .referenced }
    (ask world).ServesNext .panel (req 9 (byte1 1)) ∧ (ask world).Settled ∧ (world.drive 0).motion.state ≠ .faulted ∧
    (ask both).ServesNext .panel (req 9 (byte1 1)) ∧ (ask both).Resolved ∧ (ask both).QueueOk ∧ both.bothOn 0 = true ∧
    (ask under).ServesNext .panel (req 9 (byte1 1)) ∧ (ask under).Resolved ∧ (ask under).QueueOk ∧
    under.bothOn 0 = false ∧ (under.drive 0).demand.lockout = true ∧
    (ask home).ServesNext .panel (req 9 (byte1 1)) ∧ (ask home).Resolved ∧ (ask home).QueueOk ∧
    after (exec (.resetDrive .panel) (ask home)) (fun t => (t.drive 0).motion.state == .queued) = true ∧
    after (exec (.resetDrive .panel) (ask (home.withDemand 0
      { panel := some { value := 5, left := 9 }, target := 5, governing := .panel }))) (fun t => (t.drive 0).motion.state == .stopped) = true := by
  refine ⟨?_, settled (by decide), ?_, ?_, resolved (by decide), queueOk (by decide), ?_, ?_, resolved (by decide),
    queueOk (by decide), ?_, ?_, ?_, resolved (by decide), queueOk (by decide), ?_, ?_⟩ <;>
    first | decide | (unfold State.ServesNext; decide)

/-- A RESET_DRIVE that queues its drive under the restart hold clears the retry count and the missed end (06 R138). -/
theorem test_reset_drive_clears :
    let s := (world.withBook 0 { knowledge := .referenced }).withMotion 0
      { state := .faulted, cause := some .tripLimit, retryCount := 5, missedEnd := some .closed }
    (s.drive 0).motion.pause = none ∧ (s.drive 0).motion.retryLeft = none ∧
    after (exec (.resetDrive .panel) (asked s .panel (req 9 (byte1 1)))) (fun t =>
      (t.drive 0).motion.state == .queued && (t.drive 0).motion.retryCount == 0 &&
      (t.drive 0).motion.missedEnd == none) = true := by decide

/-- The rows of 06 R141 with two drives of one kind, and with two kinds. -/
theorem meets_SummaryCases :
    let trips (l : List (Drive × FaultSet)) := l.foldl (fun s x => s.withFaults x.1 { latched := x.2 }) world
    world.latchedPairs = [] ∧
    summaryOf (trips [(8, { trip := true }), (3, { trip := true })]).latchedPairs =
      { kind := some (.ofDrive .trip), drive := some 3, multiple := true } ∧
    summaryOf (trips [(3, { trip := true }), (14, { stall := true })]).latchedPairs =
      { kind := some (.ofDrive .stall), drive := some 14, multiple := true } ∧
    summaryOf (trips [(8, { trip := true })]).latchedPairs =
      { kind := some (.ofDrive .trip), drive := some 8, multiple := false } := by decide +kernel

theorem meets_AckFaultsClearsInactive :
    (asked world .climate (req 0x0D [])).ServesNext .climate (req 0x0D []) ∧ (asked world .climate (req 0x0D [])).Settled ∧
    Port.climate ≠ .heat := by
  refine ⟨?_, settled (by decide), by decide⟩; unfold State.ServesNext; decide

theorem meets_ForbiddenOrMalformedRefused :
    (asked world .heat (req 1 [1, 0, 0])).ServesNext .heat (req 1 [1, 0, 0]) ∧ (asked world .heat (req 1 [1, 0, 0])).Settled ∧
    serviceOf .heat 1 = some (.setDemand .heat) ∧ permitted .heat 1 = false ∧
    (asked world .panel (req 1 [1, 0, 0, 0])).ServesNext .panel (req 1 [1, 0, 0, 0]) ∧
    (asked world .panel (req 1 [1, 0, 0, 0])).Settled ∧ permitted .panel 1 = true ∧ lengthAllowed 1 4 = false := by
  refine ⟨?_, settled (by decide), ?_, ?_, ?_, settled (by decide), ?_, ?_⟩ <;>
    first | decide | (unfold State.ServesNext; decide)

/-- START_SWEEP by its own checks, each at its boundary; bad subjects and numbers; and setup writes of field 0, of a field
twice, and of drives 0 and 25; and group writes that are too short. -/
theorem meets_OwnChecks :
    let ask (p : Port) (k : Byte) (l : List Byte) := (asked world p (req k l)).ServesNext p (req k l)
    ask .heat 0x10 ([2, 0, 0] ++ byte2 0 ++ [0, 0] ++ byte2 0) ∧ ask .heat 0x10 ([3, 13, 0] ++ byte2 0 ++ [0, 0] ++ byte2 0) ∧
    ask .panel 0x10 ([4, 0, 0] ++ byte2 0 ++ [0, 0] ++ byte2 0) ∧ ask .panel 0x10 ([0, 0, 2] ++ byte2 0 ++ [0, 0] ++ byte2 0) ∧
    ask .panel 0x10 ([3, 0, 0] ++ byte2 0 ++ [0, 4] ++ byte2 0) ∧
    ask .panel 0x10 ([3, 0, 0] ++ byte2 0 ++ [0, 0] ++ byte2 1001) ∧ ask .heat 0x0E [0, 0] ∧ ask .heat 0x0F [0, 25] ∧
    ask .panel 0x0E [1, 13] ∧ ask .panel 0x0F [3, 0] ∧ ask .panel 0x13 [0, 1, 0, 1] ∧ ask .panel 0x13 [25, 1, 0, 1] ∧
    ask .panel 0x13 [1, 0, 0, 1] ∧ ask .panel 0x13 [1, 13, 0, 9, 13, 0, 9] ∧ ask .panel 0x15 [21, 0, 1] ∧
    ask .panel 0x14 [1, 0, 2, 5] ∧ [2, 5][(0#8).toNat]? = some 2#8 ∧ ask .panel 0x14 [1, 3, 65] ∧
    (asked world .heat (req 0x0E [0, 0])).Settled := by
  refine ⟨?_, ?_, ?_, ?_, ?_, ?_, ?_, ?_, ?_, ?_, ?_, ?_, ?_, ?_, ?_, ?_, rfl, ?_, settled (by decide)⟩ <;>
    (unfold State.ServesNext; decide)

/-- A JOG in direction 2, drive numbers 0 and 25, an UNUSED drive, an ABSENT drive (for SET_DEMAND and RESET_DRIVE) and one under lockout. -/
theorem meets_DriveChecksInOrder :
    let ask (s : State) (k : Byte) (l : List Byte) := asked s .panel (req k l)
    (ask world 3 [0, 2]).ServesNext .panel (req 3 [0, 2]) ∧ (ask world 3 [0, 2]).Settled ∧
    (ask world 8 [0]).ServesNext .panel (req 8 [0]) ∧ (ask world 8 [0]).Settled ∧
    (ask world 10 [25]).ServesNext .panel (req 10 [25]) ∧ (ask world 10 [25]).Settled ∧
    (ask world 4 [24]).ServesNext .panel (req 4 [24]) ∧ (ask world 4 [24]).Settled ∧ (world.setup 23).kind = .unused ∧
    (ask (vent .absent) 1 [1, 0, 0]).ServesNext .panel (req 1 [1, 0, 0]) ∧ (ask (vent .absent) 1 [1, 0, 0]).Settled ∧
    (ask (vent .absent) 9 [1]).ServesNext .panel (req 9 [1]) ∧ (ask (vent .absent) 9 [1]).Settled ∧
    (ask locked 3 [1, 1]).ServesNext .panel (req 3 [1, 1]) ∧ (ask locked 3 [1, 1]).Settled ∧
    (locked.drive 0).demand.lockout = true ∧ serviceOf .panel 3 = some (.jog .panel) ∧ permitted .panel 3 = true ∧
    lengthAllowed 3 2 = true := by
  refine ⟨?_, settled (by decide), ?_, settled (by decide), ?_, settled (by decide), ?_, settled (by decide), ?_, ?_,
    settled (by decide), ?_, settled (by decide), ?_, settled (by decide), ?_, ?_, ?_, ?_⟩ <;> first | decide | (unfold State.ServesNext; decide)

theorem meets_ReadsAnswered :
    let ask (k : Byte) (l : List Byte) := (asked world .heat (req k l)).ServesNext .heat (req k l)
    ask 0x0A [24] ∧ ask 0x17 [1] ∧ ask 0x0B [] ∧ ask 0x0C [] ∧ ask 0x19 [] ∧
    (asked world .heat (req 0x0A [24])).Settled ∧ (asked world .heat (req 0x17 [1])).Settled ∧
    (asked world .heat (req 0x0B [])).Settled ∧ (asked world .heat (req 0x0C [])).Settled ∧
    (asked world .heat (req 0x19 [])).Settled := by
  refine ⟨?_, ?_, ?_, ?_, ?_, settled (by decide), settled (by decide), settled (by decide), settled (by decide),
    settled (by decide)⟩ <;> (unfold State.ServesNext; decide)

theorem meets_SweepAndGroupReadsAnswered :
    let ask (k : Byte) (l : List Byte) := (asked world .climate (req k l)).ServesNext .climate (req k l)
    ask 0x12 [1] ∧ ask 0x12 [2] ∧ ask 0x12 [3] ∧ ask 0x12 [0] ∧ ask 0x18 [0] ∧ ask 0x18 [12] ∧ ask 0x18 [13] ∧
    (∃ x, world.settings.groups[12 - 1]? = some x) ∧
    (asked world .climate (req 0x12 [1])).Settled ∧ (asked world .climate (req 0x18 [13])).Settled := by
  refine ⟨?_, ?_, ?_, ?_, ?_, ?_, ?_, ⟨_, rfl⟩, settled (by decide), settled (by decide)⟩ <;>
    (unfold State.ServesNext; decide)

theorem meets_Subscriptions :
    let ask (k : Byte) (l : List Byte) := (asked world .heat (req k l)).ServesNext .heat (req k l)
    ask 0x0E [0, 24] ∧ ask 0x0E [1, 0] ∧ ask 0x0E [1, 12] ∧ ask 0x0E [2, 9] ∧ ask 0x0F [0, 1] ∧ ask 0x0F [1, 12] ∧
    ask 0x0F [2, 0] ∧ (24#8).toNat = driveNumber 23 ∧ (asked world .heat (req 0x0E [0, 24])).Settled ∧
    (asked world .heat (req 0x0F [2, 0])).Settled := by
  refine ⟨?_, ?_, ?_, ?_, ?_, ?_, ?_, ?_, settled (by decide), settled (by decide)⟩ <;>
    first | decide | (unfold State.ServesNext; decide)

/-- Both contexts busy; context 1 free; context 2 free with context 1 busy; and a result in 1 before a free 2. -/
theorem meets_StartSweepTakesContext :
    let f := req 0x10 (byte1 SweepKind.set.code ++ byte1 0 ++ (byte1 0 ++ byte2 1001 ++ flag1 true ++ byte1 0 ++ byte2 1000))
    let one := world.setSweep .one { state := .stepping, members := [0], nextIndex := some 1 }
    let two := one.setSweep .two { state := .waiting, members := [0], inHand := some 1 }
    let busy := two.withMotion 0 { state := .pausing }
    let old := world.setSweep .one { completion := some 0 }
    (asked busy .panel f).ServesNext .panel f ∧ (asked busy .panel f).Settled ∧
    (asked world .panel f).ServesNext .panel f ∧ (asked world .panel f).Settled ∧
    (asked one .panel f).ServesNext .panel f ∧ (asked one .panel f).Settled ∧ (one.sweep .two).state = .idle ∧
    (asked old .panel f).ServesNext .panel f ∧ (asked old .panel f).Settled ∧ (old.sweep .one).completion.isSome = true ∧
    world.groupMembers 0 ≠ [] ∧ world.groupMembers 12 = [] := by
  refine ⟨?_, settled (by decide), ?_, settled (by decide), ?_, settled (by decide), ?_, ?_, settled (by decide), ?_, ?_, ?_⟩ <;>
    first | decide | (unfold State.ServesNext; decide)

theorem meets_CancelSweepEndsContext :
    let f := req 0x11 [1]
    let s := sweeping .scan false
    (asked world .climate f).ServesNext .climate f ∧ (asked world .climate f).Settled ∧ (world.sweep .one).state = .idle ∧
    (asked s .panel f).ServesNext .panel f ∧ (asked s .panel f).Settled ∧ (s.sweep .one).owner ≠ .panel ∧
    (asked s .climate f).ServesNext .climate f ∧ (asked s .climate f).Settled ∧ (s.sweep .one).owner = .climate ∧
    (asked world .heat (req 0x11 [3])).ServesNext .heat (req 0x11 [3]) ∧ (asked world .heat (req 0x11 [3])).Settled := by
  refine ⟨?_, settled (by decide), ?_, ?_, settled (by decide), ?_, ?_, settled (by decide), ?_, ?_, settled (by decide)⟩ <;>
    first | decide | (unfold State.ServesNext; decide)

theorem meets_SweepSteps :
    (sweeping .set false).StepsNext .one 1 0 ∧ (sweeping .release false).StepsNext .one 1 0 ∧
    (sweeping .home false).StepsNext .one 1 0 ∧ (sweeping .scan false).StepsNext .one 1 0 ∧
    (sweeping .scan false).Settled ∧ (world.setup 0).kind ≠ .unused ∧ (world.drive 0).motion.state ≠ .absent ∧
    (world.drive 0).demand.lockout = false ∧ (sweeping .home false).QueueOk ∧
    ((sweeping .set false).sweep .one).owner ≠ .heat := by
  refine ⟨?_, ?_, ?_, ?_, settled (by decide), ?_, ?_, ?_, queueOk (by decide), ?_⟩ <;>
    first | decide | (unfold State.StepsNext; decide)

/-- A waiting step whose member queues, is FAULTED, and stays STOPPED. -/
theorem meets_WaitingStepCountsAtRest :
    let far := (sweeping .set true).setSweep .one { (sweeping .set true).sweep .one with value := 500 }
    let bad := (sweeping .set true).withMotion 0 { state := .faulted, cause := some .tripLimit }
    let near := (sweeping .set true).withBook 0 { knowledge := .referenced }
    far.StepsNext .one 1 0 ∧ bad.StepsNext .one 1 0 ∧ near.StepsNext .one 1 0 ∧ (far.sweep .one).wait = true ∧
    after (exec (.setStep .one) far) (fun t => (t.drive 0).motion.state == .queued) = true ∧
    after (exec (.setStep .one) bad) (fun t => (t.drive 0).motion.state == .faulted) = true ∧
    after (exec (.setStep .one) near) (fun t => (t.drive 0).motion.state == .stopped) = true := by
  refine ⟨?_, ?_, ?_, ?_, ?_, ?_, ?_⟩ <;> first | decide | (unfold State.StepsNext; decide)

/-- A context that waits for drive 1, whose settle pause ends: at its target, so that it rests and the sweep ends; and away
from it, so that it queues and the wait goes on. A trip beyond retry_limit ends the wait with the member skipped. -/
theorem meets_WaitEnds :
    let wait (s : State) := s.setSweep .one { state := .waiting, kind := .set, members := [0], wait := true, inHand := some 1 }
    let away := wait (world.withMotion 0 { state := .pausing, pause := some { kind := .settle, left := 0 } })
    let near := away.withBook 0 { knowledge := .referenced }
    let trips := wait (venting.withMotion 0 { (venting.drive 0).motion with retryCount := 4 })
    near.Settled ∧ away.Settled ∧ trips.Settled ∧ near.store.deferredReset = false ∧
    after (exec (.settleExpiry 0) near) (fun t => (t.drive 0).motion.state == .stopped && (t.sweep .one).processed == 1 &&
      (t.sweep .one).state == .idle) = true ∧
    after (exec (.settleExpiry 0) away) (fun t => (t.drive 0).motion.state == .queued &&
      t.sweep .one == away.sweep .one) = true ∧
    after (exec (.tripContactActive 0) trips) (fun t => (t.drive 0).motion.state == .faulted &&
      (t.sweep .one).skipped == 1) = true := by
  refine ⟨settled (by decide), settled (by decide), settled (by decide), ?_, ?_, ?_, ?_⟩ <;> decide

theorem meets_StepPassesOverMember :
    let unused := (sweeping .set false).withSetup 0 {}
    let absent := (sweeping .scan false).withMotion 0 { state := .absent }
    let under := (sweeping .home false).withDemand 0 { lockout := true, governing := .lockout }
    unused.StepsNext .one 1 0 ∧ unused.Settled ∧ (unused.setup 0).kind = .unused ∧ absent.StepsNext .one 1 0 ∧
    absent.Settled ∧ (absent.drive 0).motion.state = .absent ∧ under.StepsNext .one 1 0 ∧ under.Settled ∧
    (under.drive 0).demand.lockout = true := by
  refine ⟨?_, settled (by decide), ?_, ?_, settled (by decide), ?_, ?_, settled (by decide), ?_⟩ <;>
    first | decide | (unfold State.StepsNext; decide)

/-- Out of range; a save in flight; a queued drive; a change of kind; pulse_on in a train. -/
theorem meets_WriteDriveSetupTakesRecord :
    let ask (s : State) (n : Nat) (items : List (Nat × Nat)) :=
      asked s .panel (req 0x13 (byte1 n ++ items.flatMap (fun i => byte1 i.1 ++ byte2 i.2)))
    let f (n : Nat) (items : List (Nat × Nat)) := req 0x13 (byte1 n ++ items.flatMap (fun i => byte1 i.1 ++ byte2 i.2))
    (ask world 1 [(2, 6001)]).ServesNext .panel (f 1 [(2, 6001)]) ∧ (ask world 1 [(2, 6001)]).Settled ∧
    (world.setup 0).writeOk [(2, 6001)] = false ∧ (world.setup 0).writeOk [(2, 6000)] = true ∧
    (ask saving 1 [(2, 6000)]).ServesNext .panel (f 1 [(2, 6000)]) ∧ (ask saving 1 [(2, 6000)]).Settled ∧
    saving.store.save.isSome = true ∧
    (ask queueing 1 [(2, 6000)]).ServesNext .panel (f 1 [(2, 6000)]) ∧ (ask queueing 1 [(2, 6000)]).Settled ∧
    (ask world 1 [(1, 1)]).ServesNext .panel (f 1 [(1, 1)]) ∧ (ask world 1 [(1, 1)]).QueueOk ∧
    (ask world 1 [(1, 1)]).Resolved ∧ (ask (pulsing firstPulse) 17 [(13, 600), (14, 5)]).Resolved ∧
    (world.setup 0).writeOk [(1, 1)] = true ∧ world.store.save = none ∧
    (ask (pulsing firstPulse) 17 [(13, 600), (14, 5)]).ServesNext .panel (f 17 [(13, 600), (14, 5)]) ∧
    (ask (pulsing firstPulse) 17 [(13, 600), (14, 5)]).QueueOk := by
  refine ⟨?_, settled (by decide), ?_, ?_, ?_, settled (by decide), ?_, ?_, settled (by decide), ?_, queueOk (by decide),
    resolved (by decide), resolved (by decide), ?_, ?_, ?_, queueOk (by decide)⟩ <;>
    first | decide | (unfold State.ServesNext; decide)

/-- The motion states of 04 R107: to UNUSED from ABSENT, with and without a lockout; from UNUSED with the card missing and
present; and a missed end that a change of switch clears and another write keeps. -/
theorem meets_MotionWritten :
    let u := Setup.defaults .unused
    let v := Setup.defaults .vent
    let m : Motion := { missedEnd := some .closed }
    stateWritten v u true true .absent = .locked ∧ stateWritten v u false false .absent = .stopped ∧
    stateWritten u v false false .stopped = .absent ∧ stateWritten u v true false .stopped = .stopped ∧
    stateWritten u v false true .faulted = .faulted ∧ (vent .stopped).store.present[cardOf 0] = true ∧
    (m.written v { v with openSwitch := false } .stopped {} {}).missedEnd = none ∧
    (m.written v { v with deadband := 5 } .stopped {} {}).missedEnd = some .closed := by decide

/-- A bad group number, a save in flight, a sweep over the group, and a write of group 12 with two members. -/
theorem meets_WriteGroupReplacesGroup :
    let f (g : Nat) (label : List Byte) (n : List Nat) :=
      req 0x14 (byte1 g ++ byte1 label.length ++ label ++ (byte1 n.length ++ n.flatMap byte1))
    let held := world.setSweep .one { state := .stepping, group := 3, members := [0], nextIndex := some 1 }
    (asked world .climate (f 13 [] [])).ServesNext .climate (f 13 [] []) ∧ (asked world .climate (f 13 [] [])).Settled ∧
    (asked saving .climate (f 12 [] [1])).ServesNext .climate (f 12 [] [1]) ∧ (asked saving .climate (f 12 [] [1])).Settled ∧
    (asked held .climate (f 3 [] [1])).ServesNext .climate (f 3 [] [1]) ∧ (asked held .climate (f 3 [] [1])).Settled ∧
    (asked world .climate (f 12 [0x7E] [24, 1])).ServesNext .climate (f 12 [0x7E] [24, 1]) ∧
    (asked world .climate (f 12 [0x7E] [24, 1])).Settled := by
  refine ⟨?_, settled (by decide), ?_, settled (by decide), ?_, settled (by decide), ?_, settled (by decide)⟩ <;>
    (unfold State.ServesNext; decide)

/-- Crossed thresholds, a save in flight, a slot limit below the holders, and a write of frost_start -400 refused by its
check beside one of -399 that passes. -/
theorem meets_WriteCompartmentTakesRecord :
    let f (items : List (Nat × Int)) := req 0x15 (items.flatMap (fun i => byte1 i.1 ++ byte2s i.2))
    let two := holding (venting.withMotion 12 { state := .running }) [0, 12]
    (asked world .panel (f [(4, 100)])).ServesNext .panel (f [(4, 100)]) ∧ (asked world .panel (f [(4, 100)])).Settled ∧
    world.comp.writeOk [(4, 100)] = false ∧ world.comp.writeOk [(4, 99)] = true ∧
    (asked saving .panel (f [(4, 99)])).ServesNext .panel (f [(4, 99)]) ∧ (asked saving .panel (f [(4, 99)])).Settled ∧
    (asked two .panel (f [(1, 1)])).ServesNext .panel (f [(1, 1)]) ∧ (asked two .panel (f [(1, 1)])).Settled ∧
    two.comp.writeOk [(1, 1)] = true ∧ two.arbiter.holders.length = 2 ∧
    (asked world .panel (f [(11, -400), (10, -399)])).ServesNext .panel (f [(11, -400), (10, -399)]) ∧
    (asked world .panel (f [(11, -400), (10, -399)])).Settled ∧ (asked world .panel (f [(11, -400), (10, -399)])).QueueOk ∧
    world.comp.writeOk [(11, -400), (10, -399)] = true ∧
    world.comp.writeOk [(11, -400), (10, -400)] = false ∧ world.comp.writeOk [(19, 1000)] = true := by
  refine ⟨?_, settled (by decide), ?_, ?_, ?_, settled (by decide), ?_, settled (by decide), ?_, ?_, ?_, settled (by decide),
    queueOk (by decide), ?_, ?_, ?_⟩ <;> first | decide | (unfold State.ServesNext; decide)

/-- Drive 1 waiting behind the one slot, which drive 13 holds. -/
def oneSlot : State :=
  let s := (holding queueing [12]).withMotion 12 (screening.drive 12).motion
  { s with settings := { s.settings with compartment := { s.comp with slotLimit := 1 } } }

/-- A raised slot_limit grants the head in the same event; frost fields and thresholds that change, with a wind held. -/
theorem meets_WrittenFields :
    let f (items : List (Nat × Int)) := req 0x15 (items.flatMap (fun i => byte1 i.1 ++ byte2s i.2))
    let e := world.envelope
    let blown := world.withEnvelope { e with effective := some 96, computed := ⟨some 66, some 675⟩, held := ⟨66, 675⟩ }
    (asked oneSlot .panel (f [(1, 2)])).ServesNext .panel (f [(1, 2)]) ∧ (asked oneSlot .panel (f [(1, 2)])).QueueOk ∧
    (asked oneSlot .panel (f [(1, 2)])).Settled ∧ oneSlot.canGrant = false ∧
    after (exec (.writeCompartmentSetup .panel) (asked oneSlot .panel (f [(1, 2)]))) (fun t =>
      (t.drive 0).motion.state == .running && t.arbiter.holders == [12, 0] && t.arbiter.spacing == some 5) = true ∧
    after (exec (.writeCompartmentSetup .panel) (asked blown .panel (f [(12, 100), (4, 90)]))) (fun t =>
      t.envelope.frostFloor == 100 && t.envelope.computed.windward == some 400 && t.envelope.held.windward == 66 &&
      t.envelope.release == ⟨some 3000, none⟩) = true := by
  refine ⟨?_, queueOk (by decide), settled (by decide), by decide, ?_, ?_⟩
  · unfold State.ServesNext; decide
  all_goals decide +kernel

/-- A lowered rereference_distance: drive 1 at rest, and waiting behind the restart hold, keeping its entry and having it
replaced, since the drive snaps to its open end once ESTIMATED (01 R23, 04 R85). -/
theorem meets_LoweredDistance :
    let f := req 0x15 (byte1 19 ++ byte2s 1000)
    let far (s : State) (p : Nat) := s.withBook 0 { position := p, knowledge := .referenced, travel := 1001 }
    let snap := (far waitsAt500 985).withDemand 0
      { panel := some { value := 970, left := 9 }, target := 970, governing := .panel }
    let wrote (s : State) := exec (.writeCompartmentSetup .panel) (asked s .panel f)
    let down := (snap.withArbiter { snap.arbiter with
      queue := [{ drive := 0, direction := .closing, protective := false, arrival := 0 }] }).withMotion 0 { state := .queued }
    (asked (far waitsAt500 500) .panel f).QueueOk ∧ (asked down .panel f).QueueOk ∧ (far waitsAt500 500).NoGrant ∧
    (asked (far waitsAt500 500) .panel f).Settled ∧ 0 ∈ (far waitsAt500 500).waiting ∧ 0 ∉ (far world 0).waiting ∧
    after (wrote (far world 0)) (fun t => (t.drive 0).book.knowledge == .estimated && t.arbiter == world.arbiter) = true ∧
    after (wrote (far waitsAt500 500)) (fun t => (t.drive 0).motion.state == .queued) = true ∧
    after (wrote down) (fun t => (t.drive 0).motion.direction == .opening &&
      t.arbiter.queue.map Entry.arrival == [1]) = true := by
  refine ⟨queueOk (by decide), queueOk (by decide), by unfold State.NoGrant; decide, settled (by decide), ?_, ?_, ?_, ?_, ?_⟩ <;>
    decide +kernel

theorem meets_SavesStoreTheCopyTaken :
    (asked saving .panel (req 0x16 [])).ServesNext .panel (req 0x16 []) ∧ (asked saving .panel (req 0x16 [])).Settled ∧
    (asked world .panel (req 0x16 [])).ServesNext .panel (req 0x16 []) ∧ (asked world .panel (req 0x16 [])).Settled ∧
    saving.Settled ∧ saving.store.save.isSome = true ∧ saving.store.deferredReset = false ∧
    (saving.withStore { saving.store with deferredReset := true }).Settled := by
  refine ⟨?_, settled (by decide), ?_, settled (by decide), settled (by decide), ?_, ?_, settled (by decide)⟩ <;>
    first | decide | (unfold State.ServesNext; decide)

/-- An observation of the mast 1 with mean 62, gust 96, direction 250 and temperature -35. -/
def windy : WireObservation :=
  { mast := 1, directionOn := true, tempOn := true, rain := false, snow := false, mean := 62, gust := 96, direction := 250,
    temp := BitVec.ofInt 16 (-35) }

theorem meets_Observations :
    world.held = false ∧ windy.mast.toNat = world.comp.mastId ∧ { windy with mast := 0 }.mast.toNat ≠ world.comp.mastId ∧
    { windy with mast := 255 }.mast.toNat ≠ world.comp.mastId := by decide

theorem meets_EnvelopeTimersAndPushes :
    let e := world.envelope
    let falls := world.withEnvelope { e with release := ⟨none, some 0⟩, computed := ⟨none, some 1000⟩, held := ⟨1000, 0⟩ }
    let silent := world.withEnvelope { e with stale := some 0 }
    let late := world.withEnvelope { e with stale := some 0, weather := .current }
    let q : Push := { drive := 0, floor := 0, ceiling := 466 }
    let pushed := world.withEnvelope { e with pushes := [q] }
    falls.Settled ∧ falls.held = false ∧ falls.envelope.release.get .leeward = some 0 ∧ silent.Settled ∧
    silent.envelope.stale = some 0 ∧ silent.envelope.weather = .stale ∧ late.Settled ∧ late.envelope.weather = .current ∧
    pushed.held = false ∧ pushed.envelope.pushes.find? (fun p => p.drive = 0) = some q := by
  refine ⟨settled (by decide), ?_, ?_, settled (by decide), ?_, ?_, settled (by decide), ?_, ?_, ?_⟩ <;> decide

theorem meets_LapsesResolve :
    let h : Held := { value := 500, left := 0 }
    let s := (world.withDemand 0 { panel := some h, climate := some h }).resolve 0
    (s.drive 0).demand.panel = some h ∧ (s.drive 0).demand.climate = some h ∧ (s.drive 0).demand.governing = .panel ∧
    ((world.withDemand 16 { cap := some h }).drive 16).demand.cap = some h ∧ s.held = false ∧ h.left = 0 ∧ s.Resolved :=
  ⟨by decide, by decide, by decide, by decide, by decide, by decide, resolved (by decide)⟩

/-- The vent run and the valve pulse of chapter 1 in a drive that is RUNNING: at the start, in the lag, on the way, in the
planned expiry and beyond it; and the position book's for a pause and for a SCREEN. -/
theorem meets_LivePositionCases :
    let plan (n : Nat) : VentPlan := { ventPlan (Setup.defaults .vent) .opening 350 700 10 with timer := n }
    let running (n : Nat) := venting.withMotion 0 { state := .running, direction := .opening, run := some (.vent (plan n)) }
    let valve : Setup := { Setup.defaults .valve with strokeOpen := 1800, startLag := 5 }
    let third (n : Nat) : Train :=
      { firstPulse with start := 400, aim := 450, owed := 90, done := 30, number := 3, elapsed := n }
    let pulse (n : Nat) := (pulsing (third n)).withSetup 16 valve
    [0, 10, 11, 200, 429, 430, 999].map (fun n => (running n).livePosition 0) = [350, 350, 351, 508, 699, 700, 700] ∧
    [0, 5, 12, 20, 999].map (fun n => (pulse n).livePosition 16) = [417, 417, 421, 425, 450] ∧
    (between.withBook 16 { position := 11 }).livePosition 16 = 11 ∧
    (screening.withBook 12 { position := 257, count := 1234 }).livePosition 12 = 257 := by decide

theorem meets_GrantStartsHead :
    world.arbiter.queue = [] ∧ (waitsAt500.NoGrant ∧ waitsAt500.arbiter.queue ≠ []) ∧ queueing.Settled ∧ queueing.QueueOk ∧ (tripOpen queueing 0).Settled ∧ (tripOpen queueing 0).QueueOk ∧
    (∃ e rest, queueing.arbiter.queue = e :: rest) ∧ queueing.arbiter.holders.length < queueing.comp.slotLimit ∧
    queueing.arbiter.spacing = none ∧ queueing.arbiter.restart = none ∧ ((tripOpen queueing 0).drive 0).pins.tripOpen = true :=
  ⟨by decide, ⟨by unfold State.NoGrant; decide, by decide⟩, settled (by decide), queueOk (by decide), settled (by decide),
   queueOk (by decide), ⟨_, _, rfl⟩, by decide, rfl, rfl, by decide⟩

theorem meets_SpacingAndRestartExpire :
    let spaced := queueing.withArbiter { queueing.arbiter with spacing := some 0 }
    let ended := queueing.withArbiter { queueing.arbiter with restart := some 0 }
    let valve := ended.withDemand 16 { panel := some { value := 500, left := 9 }, target := 500, governing := .panel }
    spaced.Settled ∧ spaced.arbiter.spacing = some 0 ∧ valve.QueueOk ∧ valve.held = false ∧ valve.arbiter.restart = some 0 ∧
    (valve.setup 16).kind = .valve ∧ (valve.drive 16).motion.state = .stopped ∧ valve.seeksMotion 16 = true ∧
    (tripOpen valve 16).QueueOk ∧ (tripOpen valve 16).seeksMotion 16 = true ∧
    valve.arbiter.holders.length < valve.comp.slotLimit := by
  refine ⟨settled (by decide), ?_, queueOk (by decide), ?_, ?_, ?_, ?_, ?_, queueOk (by decide), ?_, ?_⟩ <;> decide

/-- A vent run whose timer has reached its planned time, and a pulse that serves the last of the owed on-time. -/
theorem meets_RunsCompleteAtAim :
    let p : VentPlan := { ventPlan (Setup.defaults .vent) .opening 0 1000 10 with timer := 1330 }
    let done := venting.withMotion 0 { state := .running, direction := .opening, run := some (.vent p) }
    let w : Train := { firstPulse with done := 340, number := 18 }
    done.QueueOk ∧ done.held = false ∧ (done.drive 0).motion.run = some (.vent p) ∧ p.planned ≤ p.timer ∧
    (pulsing w).QueueOk ∧ ((pulsing w).drive 16).motion.train = some w ∧ w.length ≤ w.elapsed ∧
    w.owed ≤ w.done + (w.length - ((pulsing w).setup 16).startLag) := by
  refine ⟨queueOk (by decide), ?_, ?_, ?_, queueOk (by decide), ?_, ?_, ?_⟩ <;> decide

theorem meets_TrainsPauseBetweenPulses :
    ((pulsing firstPulse).drive 16).motion.train = some firstPulse ∧ firstPulse.length ≤ firstPulse.elapsed ∧
    firstPulse.done + (firstPulse.length - ((pulsing firstPulse).setup 16).startLag) < firstPulse.owed ∧
    (between.drive 16).motion.pause = some { kind := .interPulse, left := 0 } ∧ (between.drive 16).pins.tripOpen = false ∧
    between.Settled ∧ ((tripOpen between 16).drive 16).pins.tripOpen = true := by
  refine ⟨?_, ?_, ?_, ?_, ?_, settled (by decide), ?_⟩ <;> decide

/-- The three waits at their end, with the drive UNKNOWN at position 0 and so seeking motion; and a REFERENCED one that does
not. -/
theorem meets_PausesEndInDecision :
    let settle := ready.withMotion 0 { state := .pausing, pause := some { kind := .settle, left := 0 } }
    let reverse := world.withMotion 0 { state := .pausing, pause := some { kind := .reversal, left := 0 } }
    let retry := ready.withMotion 16 { state := .retryWait, retryLeft := some 0 }
    settle.seeksMotion 0 = true ∧ settle.arbiter.restart = none ∧ settle.arbiter.queue = [] ∧
    reverse.seeksMotion 0 = true ∧ reverse.arbiter.restart.isSome = true ∧
    (settle.withBook 0 { knowledge := .referenced }).seeksMotion 0 = false ∧ retry.seeksMotion 16 = true ∧
    (retry.setup 16).kind = .valve ∧ (retry.drive 16).pins.tripOpen = false ∧
    ((tripOpen retry 16).drive 16).pins.tripOpen = true ∧ (tripOpen retry 16).seeksMotion 16 = true := by decide

theorem meets_TripsAndStallsEndRuns :
    let stalled := screening.withMotion 12 { (screening.drive 12).motion with pulseGap := some 0 }
    stalled.QueueOk ∧ (stalled.drive 12).motion.pulseGap = some 0 ∧ (venting.drive 0).motion.state = .running ∧
    venting.QueueOk ∧ (venting.setup 0).kind ≠ .unused ∧ (venting.drive 0).pins.tripOpen = false ∧
    (venting.drive 0).pins.tripPin = false ∧ (world.drive 0).motion.state ≠ .running ∧ world.Settled ∧
    (tripOpen world 0).Settled ∧ ((tripOpen world 0).drive 0).pins.tripPin = true ∧ world.held = false := by
  refine ⟨queueOk (by decide), ?_, ?_, queueOk (by decide), ?_, ?_, ?_, ?_, settled (by decide), settled (by decide), ?_, ?_⟩ <;>
    decide

/-- In the hold of a warm reset an open trip contact is not taken: a pulse of drive 17 that starts then runs. At the end of
the hold it is taken as a trip. -/
theorem test_trip_waits_for_hold_end :
    let held : State := { pulsing firstPulse with held := true, resetLine := true }
    after (exec (.tripContactActive 16) held) (fun t => (t.drive 16).motion.state == .running &&
      after (exec (.resetHoldEnd []) t) (fun u => (u.drive 16).motion.state == .retryWait)) = true := by decide +kernel

/-- In the hold of a warm reset a switch moves its level at the pin alone, and a pulse and an observation change nothing. -/
theorem test_hold_takes_no_input :
    let held : State := { screening with held := true }
    after (exec (.switchActive 12 .opened) held) (fun t => (t.drive 12).pins.openPin && !(t.drive 12).pins.openTaken &&
      (t.drive 12).motion.state == .running) = true ∧
    exec (.encoderPulse 12) held = .next held ∧ exec (.observation windy) held = .next held :=
  ⟨by decide, rfl, rfl⟩

/-- A pulse in a run, one that completes it, one in a coast window, a stray one, one of a VENT, and a window at its end. -/
theorem meets_PulsesMoveScreens :
    let coasting := world.withMotion 12 { coast := some { left := 0, direction := .opening } }
    let last := screening.withBook 12 { count := 2399, position := 500, knowledge := .referenced }
    screening.QueueOk ∧ last.QueueOk ∧ (screening.setup 12).kind = .screen ∧ (screening.drive 12).motion.state = .running ∧
    after (exec (.encoderPulse 12) last) (fun t => (t.drive 12).motion.state == .pausing) = true ∧
    after (exec (.encoderPulse 12) screening) (fun t => (t.drive 12).motion.state == .running) = true ∧
    ReachedPoint (Setup.defaults .screen) (last.drive 12).motion 500 500 ∧
    (coasting.drive 12).motion.coast.isSome = true ∧ (world.drive 12).motion.coast = none ∧
    (world.drive 12).motion.state ≠ .running ∧ (world.setup 0).kind ≠ .screen := by
  refine ⟨queueOk (by decide), queueOk (by decide), ?_, ?_, ?_, ?_, ⟨by decide, by decide, by decide, by decide, by decide,
    by decide⟩, ?_, ?_, ?_, ?_⟩ <;> decide

/-- A switch that becomes active: with the other one active, in a run away from it and toward it, in the pause of a train,
and at rest. One that becomes inactive at its end, and away from it. One of an UNUSED drive. -/
theorem meets_SwitchesReferenceAndFault :
    let other := world.withPins 0 { openPin := true, openTaken := true }
    let on := world.withPins 0 { closedPin := true, closedTaken := true }
    let here := on.withBook 0 { knowledge := .referenced }
    (world.drive 0).pins.level .closed = false ∧ (world.drive 0).pins.taken .closed = false ∧ world.QueueOk ∧ other.QueueOk ∧
    other.switchOn 0 .opened = true ∧ (other.drive 0).pins.level .closed = false ∧ world.switchOn 0 .opened = false ∧
    venting.QueueOk ∧ (venting.drive 0).motion.direction = .opening ∧ between.QueueOk ∧
    (between.drive 16).motion.train.isSome = true ∧ (world.drive 0).motion.train = none ∧
    (world.drive 0).pins.tripOpen = false ∧ (on.drive 0).pins.level .closed = true ∧ (on.drive 0).pins.taken .closed = true ∧
    (here.drive 0).book.knowledge = .referenced ∧ (here.drive 0).book.position = endPosition .closed ∧
    (world.setup 0).closedSwitch = true ∧ world.Settled ∧ (world.setup 23).kind = .unused := by
  refine ⟨?_, ?_, queueOk (by decide), queueOk (by decide), ?_, ?_, ?_, queueOk (by decide), ?_, queueOk (by decide), ?_, ?_,
    ?_, ?_, ?_, ?_, ?_, ?_, settled (by decide), ?_⟩ <;> decide

/-- A vent at 100 going up from 0, and one at 400 going down from 500, with points at whole hundreds. -/
theorem meets_ProgressPointMarksDrive :
    let up (t : Nat) : Motion :=
      { state := .running, direction := .opening,
        run := some (.vent { ventPlan (Setup.defaults .vent) .opening 0 1000 10 with timer := t }) }
    let down : Motion :=
      { state := .running, travelBase := 500,
        run := some (.vent { ventPlan (Setup.defaults .vent) .closing 500 0 10 with timer := 130 }) }
    (venting.withMotion 0 (up 130)).livePosition 0 = 100 ∧ (venting.withMotion 0 down).livePosition 0 = 400 ∧
    (venting.setup 0).noticeInterval = 100 := by decide

theorem meets_LinesReceiveFrames :
    world.held = false ∧ (world.port .panel).sending = none ∧ (req 0x0B []).payload.length ≤ 120 ∧
    (world.port .panel).receiver = .hunting ∧ (Receiver.hunting.take 0xA5).2 = none ∧ { world with held := true }.held = true ∧
    (Receiver.take (.inFrame [0, 0x41, 7, 0x0A]) 0).2 = none ∧
    (Receiver.take (.inFrame ([0, 0x41, 7] ++ (byte2 (crc16 [0, 0x41, 7]).toNat).take 1))
      ((byte2 (crc16 [0, 0x41, 7]).toNat).getD 1 0)).2 = some { kind := 0x41, tag := 7, payload := [] } ∧
    readObservation [1, 15, 0, 62, 0, 96, 0, 250, 0xFF, 0xDD] =
      some { windy with rain := true, snow := true } := by decide +kernel

theorem meets_TransmitterSendsInTurn :
    let q := (world.port .climate)
    let both := world.setPort .climate { q with replies := [req 0x81 [0]], notices := [.envelope] }
    let next := world.setPort .climate { q with replies := [req 0x81 [0]], notices := [.envelope], lastSource := .reply }
    (both.port .climate).lastSource = .notice ∧ (next.port .climate).lastSource = .reply ∧ world.held = false ∧
    q.sending = none ∧ q.receiver = .hunting ∧ q.quiet = true ∧ q.replies = [] ∧ q.notices = [] := by decide

theorem meets_WarmResetHoldsThenEnds :
    world.Settled ∧ world.resetLine = false ∧ world.held = false ∧ world.store.save = none ∧ saving.Settled ∧
    { world with held := true }.Settled ∧ { world with resetLine := true }.Settled ∧
    { world with resetLine := true, held := true }.QueueOk ∧
    (world.drive 0).motion.run = none ∧ (world.drive 0).motion.coast = none ∧ (world.drive 0).pins.tripOpen = false ∧
    (venting.drive 0).motion.run.isSome = true ∧ (screening.drive 12).motion.run.isSome = true ∧
    ((pulsing firstPulse).drive 16).motion.train.isSome = true ∧ venting.Settled ∧ venting.store.save = none ∧
    (world.withArbiter { world.arbiter with spacing := some 3 }).arbiter.spacing.isSome = true ∧
    { venting with resetLine := true, held := true }.QueueOk ∧
    ((venting.withPins 0 { tripPin := true }).drive 0).pins.tripOpen = false ∧ venting.bothOn 0 = false ∧
    ((world.withPins 0 { closedPin := true }).drive 0).pins.level .closed = true ∧
    ((world.withPins 0 { closedPin := true }).drive 0).pins.taken .closed = false := by
  refine ⟨settled (by decide), ?_, ?_, ?_, settled (by decide), settled (by decide), settled (by decide), queueOk (by decide),
    ?_, ?_, ?_, ?_, ?_, ?_, settled (by decide), ?_, ?_, queueOk (by decide), ?_, ?_, ?_, ?_⟩ <;> decide

/-- The save that a lockout change begins takes the whole working copy, a written group among it (10 R201 to R203; log entry
41). -/
theorem test_lockout_saves_groups :
    let written := { world with settings := { world.settings with groups := world.settings.groups.set 2 { members := [4] } } }
    after (exec (.lockoutOn .panel) (asked written .panel (req 4 [1]))) (fun t =>
      t.store.save.any (fun v => v.copy.settings.groups[2] == { members := [4] } && v.copy.lockouts == [0])) = true := by
  decide

/-- A save that completes leaves its copy with the copy's CRC, and a cold reset that cuts nothing keeps the CRC (10 R201,
R202, R204). -/
theorem test_image_crc (v : Save) :
    (saving.store.completed v).stored = v.copy ∧ (saving.store.completed v).crc = Config.imageCrc v.copy ∧
    saving.store.crcAfterCut false 0 = saving.store.crc := ⟨rfl, rfl, rfl⟩

/-- A cold reset with drive 1 a VENT in the stored image: with card 1 missing, with no switch active, with the closed
switch active, and with both. -/
theorem meets_ColdResetStartsAfresh :
    let s := world.withStore { world.store with stored := { settings := world.settings } }
    let all : Vector Bool 6 := Vector.replicate 6 true
    after (exec (.coldReset (all.set 0 false) false []) s) (fun t => (t.drive 0).motion.state == .absent) = true ∧
    after (exec (.coldReset all false []) s) (fun t => (t.drive 0).motion.state == .queued) = true ∧
    after (exec (.coldReset all false []) (s.withPins 0 { closedPin := true })) (fun t =>
      (t.drive 0).book.knowledge == .referenced) = true ∧
    after (exec (.coldReset all false []) (s.withPins 0 { closedPin := true, openPin := true })) (fun t =>
      (t.drive 0).motion.state == .faulted) = true := by decide +kernel

end Sys2Proof.Tests
end

section
/-! PROOFS. The weather envelope (chapter 3): what an observation does to the envelope unit, said once per operation, and the
statement that another mast's observation is ignored. -/

namespace Sys2Proof.Machine

variable {s : State} {w : WireObservation}

/-! ### The envelope after an accepted observation -/

@[simp] theorem Envelope.recompute_observation (e : Envelope) (c : Compartment) (n : Nat) (x : Side) :
    (e.recompute c n x).observation = e.observation := by
  unfold Envelope.recompute; dsimp only; split
  · rfl
  · split <;> rfl

@[simp] theorem Envelope.recompute_age (e : Envelope) (c : Compartment) (n : Nat) (x : Side) :
    (e.recompute c n x).age = e.age := by
  unfold Envelope.recompute; dsimp only; split
  · rfl
  · split <;> rfl

/-- An accepted observation replaces the one held (03 R58). -/
@[simp] theorem Envelope.accept_observation (e : Envelope) (c : Compartment) (o : Observation) :
    (e.accept c o).observation = some o := by
  simp [Envelope.accept, Envelope.refrost]

/-- The age of an accepted observation begins at 0 (03 R58). -/
@[simp] theorem Envelope.accept_age (e : Envelope) (c : Compartment) (o : Observation) : (e.accept c o).age = 0 := by
  simp [Envelope.accept, Envelope.refrost]

/-! ### What pushes and marks leave of the envelope -/

/-- Two envelopes agree but for the pairs on their way to the demand table (03 R70). -/
def Envelope.SameButPushes (e e' : Envelope) : Prop := e' = { e with pushes := e'.pushes }

theorem Envelope.SameButPushes.refl (e : Envelope) : e.SameButPushes e := rfl

theorem Envelope.SameButPushes.observation {e e' : Envelope} (h : e.SameButPushes e') : e'.observation = e.observation :=
  (congrArg Envelope.observation h :)

theorem Envelope.SameButPushes.age {e e' : Envelope} (h : e.SameButPushes e') : e'.age = e.age :=
  (congrArg Envelope.age h :)

/-- A push of one drive's pair adds to the pairs on their way alone. -/
theorem Envelope.SameButPushes.pushDrive {e : Envelope} (h : e.SameButPushes s.envelope) (d : Drive) :
    e.SameButPushes (s.pushDrive d).envelope := by
  unfold State.pushDrive; dsimp only; split
  · exact h
  · unfold Envelope.SameButPushes at h ⊢
    rw [State.withEnvelope_envelope, h]

/-- The push of every drive's pair leaves the rest of the envelope. -/
theorem State.pushAll_sameButPushes (s : State) : s.envelope.SameButPushes s.pushAll.envelope :=
  List.foldlRecOn (motive := fun t : State => s.envelope.SameButPushes t.envelope) allDrives State.pushDrive (.refl _)
    (fun _ h d _ => h.pushDrive d)

@[simp] theorem State.markEnvelope_envelope (s : State) : s.markEnvelope.envelope = s.envelope :=
  (Kept.markEnvelope (.refl (fun _ => False) (fun _ => False) s)).envelope

/-- The envelope unit takes the new parts as they are given, with its pushes added (03 R70, R71). -/
theorem State.changeEnvelope_sameButPushes (s : State) (e : Envelope) :
    e.SameButPushes (s.changeEnvelope e).envelope := by
  have pushed := (s.withEnvelope e).pushAll_sameButPushes
  unfold State.changeEnvelope; dsimp only; split
  · rw [State.markEnvelope_envelope]; exact pushed
  · exact pushed

/-- The end of WEATHER_STALE concerns the fault table, not the envelope (03 R73). -/
@[simp] theorem State.endStale_envelope (s : State) : s.endStale.envelope = s.envelope :=
  (Kept.refreshSummary (.refl (fun _ => False) (fun _ => False) (s.withCompFaults _))).envelope

/-! ### An observation at the envelope unit -/

@[simp] theorem takenObservation_mast (w : WireObservation) : (takenObservation w).mast = w.mast.toNat := rfl

/-- The envelope unit ignores an observation of another mast (03 R57). -/
theorem State.observe_other (h : w.mast.toNat ≠ s.comp.mastId) : s.observe w = s := if_pos h

/-- The envelope unit accepts an observation of the unit's own mast (03 R57). -/
theorem State.observe_own (h : w.mast.toNat = s.comp.mastId) :
    (s.envelope.accept s.comp (takenObservation w)).SameButPushes (s.observe w).envelope := by
  have changed := s.changeEnvelope_sameButPushes (s.envelope.accept s.comp (takenObservation w))
  unfold State.observe; dsimp only
  rw [takenObservation_mast, if_neg (not_not_intro h)]
  split
  · rw [State.endStale_envelope]; exact changed
  · exact changed

/-! ### The command -/

/-- What ends an event, the reports of rest and the model's own marks, leaves the envelope (log entries 10, 28). -/
theorem State.event_envelope (s : State) (f : State → State) : (s.event f).envelope = (f s.clearEvent).envelope :=
  (SweepOnly.settleWaits (f s.clearEvent)).drivesOnly.envelope

/-- A frame of the mast leaves the weather receiver in HUNTING, and its observation is handed to the envelope unit. -/
theorem exec_observation (h : s.held = false) :
    exec (.observation w) s = .next ({ s with weatherRx := .hunting }.event (State.observe · w)) :=
  congrArg Host.Outcome.next (if_neg (Bool.eq_false_iff.1 h))

/-- The weather receiver has no part in whether the unit stands between two events. -/
theorem State.Settled.withWeatherRx (h : s.Settled) (r : Receiver) : { s with weatherRx := r }.Settled :=
  ⟨h.granted, h.fresh, h.waits⟩

theorem exec_observation_other (hs : s.Settled) (hh : s.held = false) (hm : w.mast.toNat ≠ s.comp.mastId) :
    exec (.observation w) s = .next { s with weatherRx := .hunting } := by
  have ignored : State.observe { s with weatherRx := .hunting } w = { s with weatherRx := .hunting } :=
    State.observe_other hm
  have settled : (State.observe { s with weatherRx := .hunting } w).Settled := by
    rw [ignored]; exact hs.withWeatherRx .hunting
  rw [exec_observation hh, (hs.withWeatherRx .hunting).event_eq settled, ignored]

theorem exec_observation_own (hh : s.held = false) (hm : w.mast.toNat = s.comp.mastId) :
    ∃ t, exec (.observation w) s = .next t ∧ t.envelope.observation = some (takenObservation w) ∧ t.envelope.age = 0 := by
  refine ⟨_, exec_observation hh, ?_⟩
  have accepted := State.observe_own (s := { s with weatherRx := .hunting }.clearEvent) hm
  rw [State.event_envelope, accepted.observation, accepted.age]
  exact ⟨Envelope.accept_observation _ _ _, Envelope.accept_age _ _ _⟩

/-- Settles O45: an observation of another mast has no effect to settle, so the event is the change of the receiver alone;
one of the unit's mast is accepted, and neither pushes nor marks touch the observation and its age (03 R57, R58). -/
theorem otherMastIgnored : Obligations.OtherMastIgnored := by
  refine fun s o hs hh => ⟨exec_observation_other hs hh, fun hm => ?_⟩
  obtain ⟨t, ht, observed, age⟩ := exec_observation_own hh hm
  exact ⟨t, ht, by rw [observed, Option.map_some, takenObservation_mast], age⟩

end Sys2Proof.Machine
end

section
/-! PROOFS. Sweep steps (chapter 7): what a context becomes when its sweep ends or goes on, what a step of one context changes,
and the statement about a SCAN step. -/

namespace Sys2Proof.Machine

variable {s t : State} {c : Context} {i : Nat} {d : Drive} {x : SweepCtx}

/-! ### The pointer -/

/-- `s` with the alternation pointer past context `c`, as every step leaves it (07 R155). -/
def State.passPointer (s : State) (c : Context) : State := s.withSweeps { s.sweeps with pointer := otherContext c }

@[simp] theorem State.passPointer_sweep (s : State) (c k : Context) : (s.passPointer c).sweep k = s.sweep k := by
  cases k <;> rfl

@[simp] theorem State.passPointer_pointer (s : State) (c : Context) :
    (s.passPointer c).sweeps.pointer = otherContext c := rfl

@[simp] theorem State.passPointer_next (s : State) (c : Context) :
    (s.passPointer c).sweeps.nextCompletion = s.sweeps.nextCompletion := rfl

theorem SweepOnly.passPointer (s : State) (c : Context) : SweepOnly s (s.passPointer c) := .withSweeps s _

theorem otherContext_ne (c : Context) : otherContext c ≠ c := by cases c <;> decide

theorem eq_or_eq_otherContext (c k : Context) : k = c ∨ k = otherContext c := by
  cases c <;> cases k <;> decide

/-! ### The end of a sweep -/

theorem State.mem_mark (s : State) (p : Port) (y : Subject) : y ∈ ((s.mark p y).port p).notices := by
  have marked : (s.mark p y).port p = (s.port p).marked s.freeCount y := State.setPort_port_same s p _
  rw [marked]
  exact ((MasterPort.marked_spec _ _ _).2.1 y).2 (.inl rfl)

/-- The owner of a sweep that ends has SWEEP_DONE pending (07 R163). -/
theorem State.sweepDone_mem_endSweep (s : State) (c : Context) (x : SweepCtx) :
    Subject.sweepDone c ∈ ((s.endSweep c x).port x.owner).notices := State.mem_mark _ _ _

/-! ### What a context goes on to -/

theorem State.goOn_some {n : Nat} (s : State) (c : Context) (h : x.nextIndex = some n) :
    s.goOn c x = s.setSweep c { x with state := .stepping, inHand := none } :=
  if_neg (by simp [h])

theorem State.goOn_none (s : State) (c : Context) (h : x.nextIndex = none) :
    s.goOn c x = s.endSweep c { x with markers := { x.markers with exhausted := true } } :=
  if_pos (by simp [h])

/-- A context goes on at its next index, or ends with EXHAUSTED where it has none (07 R156, R163). -/
theorem State.goOn_wentOnTo (s : State) (c : Context) (next : Option Nat) (x : SweepCtx) :
    WentOnTo c next x s (s.goOn c { x with nextIndex := next }) := by
  cases next with
  | some n =>
    refine ⟨fun m hm => ?_, nofun⟩
    rw [State.goOn_some s c rfl, State.setSweep_sweep_same, hm]
  | none =>
    refine ⟨nofun, fun _ => ?_⟩
    rw [State.goOn_none s c rfl]
    exact ⟨⟨_, Nat.le_refl _, Nat.lt_succ_self _, State.endSweep_sweep _ _ _⟩, State.sweepDone_mem_endSweep s c _⟩

/-- What a context went on to is read from the completion order before, and the sweep engine and notice queues after. -/
theorem WentOnTo.congr {next : Option Nat} {s' t' : State} (h : WentOnTo c next x s t)
    (hn : s'.sweeps.nextCompletion = s.sweeps.nextCompletion) (ht : t'.sweeps = t.sweeps)
    (hp : ∀ p, (t'.port p).notices = (t.port p).notices) : WentOnTo c next x s' t' := by
  simpa only [WentOnTo, State.sweep, hn, ht, hp] using h

/-! ### A step of one context -/

/-- A step of context `c` that leaves it not waiting has changed nothing but that context, the pointer, and what its owner
has pending (07 R155). -/
structure SweepStepped (c : Context) (s t : State) : Prop where
  only : SweepsOnly c s t
  queues : QueuesSame s t
  pointer : t.sweeps.pointer = otherContext c
  counted : (t.sweep c).state ≠ .waiting

theorem SweepStepped.endSweep (s : State) (c : Context) (x : SweepCtx) :
    SweepStepped c s ((s.passPointer c).endSweep c x) := by
  have engine := (SweepOnly.passPointer s c).trans (.endSweep _ c x)
  have idle : (((s.passPointer c).endSweep c x).sweep c).state = .idle := by rw [State.endSweep_sweep]
  refine ⟨⟨?_, fun _ => ?_, fun active => absurd idle active, engine.drives, engine.drivesOnly, engine.slots,
    engine.store, engine.compFaults⟩, engine.queues, State.endSweep_pointer _ c x, by simp [idle]⟩
  · rw [State.endSweep_sweep_ne _ (otherContext_ne c), State.passPointer_sweep]
  · rw [State.endSweep_sweep, State.endSweep_next, State.passPointer_next]
    exact ⟨rfl, rfl⟩

theorem SweepStepped.goOn (s : State) (c : Context) (x : SweepCtx) :
    SweepStepped c s ((s.passPointer c).goOn c x) := by
  cases next : x.nextIndex with
  | none => rw [State.goOn_none _ c next]; exact .endSweep s c _
  | some n =>
    have engine := (SweepOnly.passPointer s c).trans (.goOn _ c x)
    have stepping : (((s.passPointer c).goOn c x).sweep c).state = .stepping := by
      rw [State.goOn_some _ c next, State.setSweep_sweep_same]
    refine ⟨⟨?_, fun idle => ?_, fun _ => ?_, engine.drives, engine.drivesOnly, engine.slots, engine.store,
      engine.compFaults⟩, engine.queues, State.goOn_pointer _ c x, State.goOn_state _ c x⟩
    · rw [State.goOn_sweep_ne _ (otherContext_ne c), State.passPointer_sweep]
    · exact absurd (stepping.symm.trans idle) (by decide)
    · rw [State.goOn_next, if_neg (by simp [next]), State.passPointer_next]

@[simp] theorem State.clearEvent_notices (s : State) (p : Port) :
    (s.clearEvent.port p).notices = (s.port p).notices := by
  cases p <;> rfl

theorem SweepStepped.clearEvent (h : SweepStepped c s t) : SweepStepped c s t.clearEvent :=
  have cleared := t.clearEvent_sweepOnly
  ⟨{ h.only with drivesOnly := h.only.drivesOnly.trans cleared.drivesOnly }, h.queues.trans cleared.queues, h.pointer,
    h.counted⟩

/-- Such a step ends no wait: the event is the step and the clearing of the model's own marks (07 R160; log entries 10,
28). -/
theorem SweepStepped.event_eq {f : State → State} (h : SweepStepped c s (f s)) (hs : s.Settled) :
    s.event f = (f s).clearEvent := by
  have waits : ∀ k, (f s).waitOver k = false := by
    intro k
    rcases eq_or_eq_otherContext c k with rfl | rfl
    · simp [State.waitOver, h.counted]
    · rw [State.waitOver_congr h.only.other h.only.drives]; exact hs.waits _
  unfold State.event
  rw [hs.clearEvent, State.settleWaits_eq waits]

/-! ### A SCAN step -/

theorem SweepCtx.memberAt_eq (h : 1 ≤ i) : x.memberAt i = x.members[i - 1]? := if_neg (by omega)

/-- A member in use is passed over by a HOME sweep alone (07 R156). -/
theorem State.passedOver_eq_false {k : SweepKind} (hu : (s.setup d).kind ≠ .unused)
    (ha : (s.drive d).motion.state ≠ .absent) (hk : k ≠ .home) : s.passedOver k d = false := by
  simp [State.passedOver, hu, ha, hk]

/-- The record of a SCAN sweep that ends at place `i`, which holds drive `d` (07 R152, R159). -/
def SweepCtx.foundAt (x : SweepCtx) (i : Nat) (d : Drive) : SweepCtx :=
  { x with
    nextIndex := x.placeAfter i, processed := x.processed + 1, markers := { x.markers with found := true },
    foundPlace := some i, foundDrive := some d }

/-- A SCAN step at a member that is not passed over (07 R152, R159). -/
theorem State.StepsNext.takeScan_eq (h : s.StepsNext c i d) (hp : s.passedOver (s.sweep c).kind d = false) :
    s.takeScan c =
      if s.scanMatches (s.sweep c) d then (s.passPointer c).endSweep c ((s.sweep c).foundAt i d)
      else (s.passPointer c).goOn c { (s.sweep c).process with nextIndex := (s.sweep c).placeAfter i } := by
  obtain ⟨-, -, -, next, place, member⟩ := h
  have inHand : (s.sweep c).nextIndex.bind (fun i => ((s.sweep c).memberAt i).map (fun d => (i, d))) = some (i, d) := by
    rw [next, Option.bind_some, SweepCtx.memberAt_eq place, member, Option.map_some]
  unfold State.takeScan
  simp only [inHand, hp]
  rfl

/-- The step that is taken next, on a SCAN sweep between two events. -/
theorem State.StepsNext.exec_scanStep (h : s.StepsNext c i d) (hk : (s.sweep c).kind = .scan) (hs : s.Settled)
    (stepped : SweepStepped c s (s.takeScan c)) : exec (.scanStep c) s = .next (s.takeScan c).clearEvent := by
  obtain ⟨held, served, turn, -⟩ := h
  have taken : s.sweepStep c .scan (State.takeScan · c) = s.event (State.takeScan · c) :=
    if_pos ⟨held, served, turn, hk⟩
  exact congrArg Host.Outcome.next (taken.trans (stepped.event_eq (f := (State.takeScan · c)) hs))

/-- Settles O38: the step is one operation on its context, which ends the sweep with FOUND or goes on past the member, and
the event adds nothing to it, as no wait can end where no drive changes (07 R159, R160). -/
theorem scanStepTestsMember : Obligations.ScanStepTestsMember := by
  intro s c i d settled next kind used present x m hit
  have notPassed : s.passedOver x.kind d = false := s.passedOver_eq_false used present (by simp [x, kind])
  have tested : s.scanMatches x d = hit := by
    simp only [State.scanMatches, hit, m]
    cases x.condition with
    | offTarget => rfl
    | notReferenced => cases (s.drive d).book.knowledge <;> rfl
    | faulted => simp only [beq_eq_decide, Bool.decide_or]
    | moving => simp only [beq_eq_decide, Bool.decide_or, Bool.or_assoc]
  have step := next.takeScan_eq notPassed
  rw [tested] at step
  have stepped : SweepStepped c s (s.takeScan c) := by
    rw [step]; split
    · exact .endSweep s c _
    · exact .goOn s c _
  obtain ⟨only, queues, pointer, -⟩ := stepped.clearEvent
  refine ⟨_, next.exec_scanStep kind settled stepped, only, queues, pointer, fun matched => ?_, fun unmatched => ?_⟩
  · rw [if_pos matched] at step
    rw [State.clearEvent_notices, step]
    exact ⟨State.endSweep_sweep _ c _, State.sweepDone_mem_endSweep _ c (x.foundAt i d)⟩
  · rw [if_neg (by simp [unmatched])] at step
    have wentOn := State.goOn_wentOnTo (s.passPointer c) c (x.placeAfter i) x.process
    rw [← step] at wentOn
    exact wentOn.congr rfl rfl (State.clearEvent_notices _)

end Sys2Proof.Machine
end
